-- ==== Sys2Proof/Word.lean ====
section
/-!
DEFINITION. The three word types of the part: the byte of both its ports (R171), the 16-bit cycle number (R3) and the
3-bit sequence (00_scope 3.3: sequences are counted modulo 8). Everything else the spec counts is a natural number.
-/

namespace Sys2Proof

/-- One byte on the link or on the host port. -/
abbrev Byte := BitVec 8

/-- The cycle number, 0 to 65535, which wraps (R3). -/
abbrev CycleNum := BitVec 16

/-- A packet sequence, 0 to 7, counted modulo 8. -/
abbrev Seq := BitVec 3

end Sys2Proof
end

