-- ==== Sys2Proof/Config.lean ====
section
/-!
DEFINITION. What the spec leaves to the part: two orders, as free values. Nothing in Lean can evaluate them, so a
statement proved of the model holds for every choice a part may make. The argument is `State.freeReads`, so each meeting
has an order of its own.
-/

namespace Sys2Proof

/-- R98: "A REFERENCE_CHANGED caused by the same notice may stand before or after" the LANE_HALTED events of an absence
notice. True: before. Free value, log entry 7 (safe: both orders are allowed). -/
opaque Config.fallbackFirst : Nat → Bool

/-- R14: schedule unit and delivery unit take an aligned DATA frame in one stage with no order between them, and R163
lets posts from separate causes stand in either order. True: the schedule unit first. Read only where the two orders
differ. Free value, log entry 8 (safe: both orders are allowed). -/
opaque Config.learnFirst : Nat → Bool

end Sys2Proof
end

