-- ==== Sys2Proof/Syntax.lean ====
section
/-!
DEFINITION. The commands of the block: one constructor per row of spec/opcode_table.json, with the operands the spec's
text gives the row (the table itself lists none).
-/

namespace Sys2Proof

/-- The five argument bytes CONFIGURE carries for one transmit lane (R175). -/
structure LaneArgs where
  destination : Byte
  channel : Byte
  maxPayload : Byte
  share : Byte
  confirm : Byte
deriving DecidableEq, Repr

/-- The 23 argument bytes of CONFIGURE in their order (R175). -/
structure ConfigureArgs where
  address : Byte
  code : Byte
  lane0 : LaneArgs
  lane1 : LaneArgs
  lane2 : LaneArgs
  lane3 : LaneArgs
  notify : Byte
deriving DecidableEq, Repr

/-- Where a received frame lay against the station's own slots (R10, R14). DESIGN CHOICE, log entry 3. -/
inductive FrameSpan
  /-- It began in the slot in progress and its frame end comes before that slot's end. -/
  | inSlot
  /-- It began in the slot in progress and its frame end falls at the instant of that slot's end, taken before it. -/
  | atSlotEnd
  /-- It began in the slot before the one in progress: it straddled that slot's end. -/
  | overSlotEnd
deriving DecidableEq, Repr

/-- One step of the part, as spec/opcode_table.json lists them. -/
inductive Instr
  | configure (args : ConfigureArgs)
  | join
  | leave
  | reserve (lane n : Byte)
  | release (lane : Byte)
  | append (lane count : Byte) (payload : List Byte)
  | commit (lane : Byte)
  | flush (lane : Byte)
  | resume (lane : Byte)
  | fetch (lane : Byte)
  | readEvent
  | readStatus
  | readSlot (slot : Byte)
  | readPeer (address : Byte)
  | reset
  /-- The code byte names no command (R155). -/
  | unknownCommand (code : Byte)
  /-- Chip select rose before the last argument byte; the whole bytes that had arrived (R155). -/
  | commandDiscard (received : List Byte)
  | resetAct
  | fetchRemoval
  | eventRemoval
  | powerOn
  | rstnFall
  | rstnRise
  /-- The whole bytes of one received frame, whether a last byte of fewer than eight bits followed (R173), and the
  frame's place against the station's slots. -/
  | receiveFrame (bytes : List Byte) (ragged : Bool) (span : FrameSpan)
  | scheduledSlotStart
  | openSlotStart
  /-- Whether any bit read back from the pair differed from the bit driven (R16). -/
  | ownFrameEnd (differed : Bool)
  | cycleStart
  | slotEnd
  | lapse (slot : Nat)
  | yieldWindowExpire (slot : Nat)
  | pendingExpiry (slot : Nat)
  | barExpire (slot : Nat)
  | settleExpire
  | listenEnd
  | waitingHomePick
  | leaveTimeout
  /-- The next peer in ascending address order whose count reaches 16 (R97). -/
  | peerAbsence
  /-- The oldest position of the lane that reaches its deadline (R141). -/
  | deadlineReached (lane : Nat)
  | relearnHoldExpire
  | busyHoldExpire (lane : Nat)
  | supplySettled
deriving DecidableEq, Repr

end Sys2Proof
end

