-- ==== Sys2Proof/Machine/State.lean ====
section
/-!
DEFINITION. The state of the station as plain data, one record for each block of 00_scope 2.1, and `State.reset`.
-/

namespace Sys2Proof.Machine

/-- Why a command could stop the machine. No command of this block does: the spec gives every step of the table an
effect, its refused commands are status codes (R157) and its FAULT is a station state (R38). -/
inductive Fault
deriving DecidableEq, Repr

/-- Why a command could be turned away by the model. -/
inductive Refusal
  /-- Raised by `exec` alone, for a row that has no meaning yet. No row is left so. Safe. -/
  | notModelled (mnemonic : String)
deriving DecidableEq, Repr

/-- The three cycle codes (00_scope 3.5). -/
inductive CycleCode
  | c16 | c32 | c64
deriving DecidableEq, Repr

/-- The station states of section 2.1. -/
inductive StationState
  | unconfigured | offline | listening | waiting | joining | joined | leaving | fault
deriving DecidableEq, Repr

/-- What an own slot serves (R60): one transmit lane, or any. -/
inductive Binding
  | lane (l : Nat)
  | shared
deriving DecidableEq, Repr

/-- One slot table entry with the fields its state carries (R41). The announced flag of an OWN_CLAIMING entry is set
exactly when it carries a settle count. -/
inductive Entry
  | free
  | barred (bar : Nat)
  | peerPending (owner expiry : Nat)
  | peerHeld (owner silence : Nat)
  | ownClaiming (binding : Binding) (home : Bool) (settle : Option Nat)
  | ownHeld (binding : Binding) (home : Bool) (round : Nat)
  | ownYielding (binding : Binding) (home : Bool) (round window : Nat)
deriving DecidableEq, Repr

/-- What a claim is for (R59). -/
inductive ClaimKind
  | reservation (lane : Nat)
  | home
deriving DecidableEq, Repr

/-- Whether the CLAIM frame has gone out clean, and then whether it did so in the cycle now running (R59). -/
inductive ClaimPhase
  | unsent
  | announced (firstStart : Bool)
deriving DecidableEq, Repr

/-- The claim in flight (R59). -/
structure Claim where
  kind : ClaimKind
  phase : ClaimPhase
deriving DecidableEq, Repr

/-- The control frame kinds (R8, R9). -/
inductive CtlKind
  | claim | release | leave
deriving DecidableEq, Repr

/-- A frame of the control queue (R82): its kind and the slots it names, ascending. -/
structure CtlFrame where
  kind : CtlKind
  slots : List Nat
deriving DecidableEq, Repr

/-- The attempt state of the head of the control queue (R82). -/
structure Attempt where
  attempts : Nat
  window : Nat
  backoff : Nat
deriving DecidableEq, Repr

/-- The readback result (R16). -/
inductive Readback
  | clean | failed
deriving DecidableEq, Repr

/-- The block that supplied the frame on the line (R16): the slot server, or the open-slot sender with the frame as it
was when its transmission began and whether a LEAVE has replaced it in the queue since (R90). -/
inductive FrameSource
  | data (slot : Nat)
  | control (frame : CtlFrame) (replaced : Bool)
deriving DecidableEq, Repr

/-- An own frame on the line (R15, R16). `discarded` says that a move to OFFLINE discards its result. -/
structure OwnFrame where
  source : FrameSource
  bytes : List Byte
  readback : Readback
  discarded : Bool
deriving DecidableEq, Repr

/-- A frame heard whose frame end falls at the instant of a slot start that is still to be marked (R10; log entry 5). -/
inductive StartFrame
  /-- An own transmission may begin at that slot start, which decides whether the frame is discarded. -/
  | underWay (bytes : List Byte)
  /-- The frame was taken, so no own transmission begins at that slot start. -/
  | taken
deriving DecidableEq, Repr

/-- The line unit. The driver is on exactly while `own` is present (R1). -/
structure LineUnit where
  own : Option OwnFrame
  faultCount : Nat
  /-- An own transmission began in the slot in progress (R10, R75). -/
  sentInSlot : Bool
  /-- Senders of the aligned DATA frames heard in the slot in progress (R14, R48). -/
  heardData : List Nat
  /-- A valid frame was heard in the slot in progress (R14, R75). -/
  heardValid : Bool
  /-- The frame heard that ends at the slot start to come: the model's own carrier of R10 (log entry 5). -/
  atStart : Option StartFrame
deriving DecidableEq, Repr

/-- Where the cycle timer stands inside its slot: the slot start is still to be marked; it is marked or is none to
mark; or the slot end of slot S-1 is marked and the cycle start is not. The model's own (log entry 11). -/
inductive SlotPhase
  | starting | running | ended
deriving DecidableEq, Repr

/-- A count that runs out at the last mark and whose step is still to be taken (log entries 1 and 23). -/
inductive Due
  | lapse (slot : Nat)
  | yieldEnd (slot : Nat)
  | pendingExpiry (slot : Nat)
  | barExpire (slot : Nat)
  | settle
  | listenEnd
  | waitingPick
  | leaveTimeout
  | absence (address : Nat)
  | deadline (lane : Nat) (seq : Seq)
  | relearnHold
  | busyHold (lane : Nat)
deriving DecidableEq, Repr

/-- The cycle timer (section 2.2). -/
structure CycleTimer where
  position : Nat
  cycle : CycleNum
  reference : Nat
  acquired : Bool
  relearnHold : Nat
  phase : SlotPhase
  /-- The slot position and cycle number in force before the last slot end, to which a frame that straddles it is
  attributed (R10). -/
  lastSlot : Option (Nat × CycleNum)
  due : List Due
deriving DecidableEq, Repr

/-- The station controller, with the part of the configuration that names the station. -/
structure StationControl where
  life : StationState
  address : Nat
  code : Option CycleCode
  listenCount : Nat
  restartMark : Bool
  leaveCount : Nat
deriving DecidableEq, Repr

/-- The schedule unit: slot table and reservation record. -/
structure Schedule where
  slots : List Entry
  claim : Option Claim
deriving DecidableEq, Repr

/-- The open-slot sender. `attempt` is the attempt state of the head. -/
structure OpenSender where
  queue : List CtlFrame
  attempt : Option Attempt
  generator : Nat
deriving DecidableEq, Repr

/-- One peer record (R94). Its self flag is a view: the record of the own address. -/
structure Peer where
  present : Bool
  silence : Nat
  mismatch : Bool
deriving DecidableEq, Repr

/-- The configuration of an enabled transmit lane (R107). -/
structure LaneConfig where
  destination : Nat
  channel : Nat
  maxPayload : Nat
  share : Nat
  confirm : Bool
deriving DecidableEq, Repr

/-- Why a lane halted (R110). -/
inductive HaltReason
  | retry | busyLimit | absent
deriving DecidableEq, Repr

/-- The state of a position with the fields only a SENT one has (R112). -/
inductive PosPhase
  | loading
  | committed
  | sent (start : Bool) (retries : Nat) (deadline : CycleNum) (eligible : Bool)
deriving DecidableEq, Repr

/-- A place for one packet (R112). Its length is the payload's. -/
structure Position where
  payload : List Byte
  seq : Option Seq
  phase : PosPhase
deriving DecidableEq, Repr

/-- A transmit lane (R109). It is DISABLED without a configuration, HALTED with a reason, READY otherwise. -/
structure TxLane where
  config : Option LaneConfig
  halt : Option HaltReason
  positions : List Position
  nextSeq : Seq
  armed : Bool
  busyHold : Nat
  busyCount : Nat
deriving DecidableEq, Repr

/-- The transmit lanes and the slot server's shared-slot record (R122). -/
structure TxLanes where
  lanes : List TxLane
  lastShared : Nat
deriving DecidableEq, Repr

/-- An ack entry: in the ack-owed list `station` is the peer it is owed to (R133), in a frame the acknowledged station
(R6). -/
structure AckEntry where
  station : Nat
  channel : Nat
  next : Seq
  busy : Bool
deriving DecidableEq, Repr

/-- The delivery unit: 248 receive contexts, four for each peer address in order (R128), and the ack-owed list. -/
structure Delivery where
  contexts : List (Option Seq)
  owed : List AckEntry
deriving DecidableEq, Repr

/-- A delivered packet (R147). Its length is the payload's. -/
structure RxRecord where
  source : Nat
  broadcast : Bool
  payload : List Byte
  arrival : CycleNum
deriving DecidableEq, Repr

/-- The receive lanes with their notify flags (R147, R152). -/
structure RxLanes where
  lanes : List (List RxRecord)
  notify : List Bool
deriving DecidableEq, Repr

/-- Why the station left (R34, R36). -/
inductive LeftReason
  | host | controlAbandoned | timeout
deriving DecidableEq, Repr

/-- Why an own slot was lost (R76, R77). -/
inductive LossReason
  | yielded | abandoned
deriving DecidableEq, Repr

/-- The sixteen event kinds with their arguments (R163). -/
inductive Event
  | joined (slot : Nat)
  | waiting
  | left (reason : LeftReason)
  | reserveDone (lane gained : Nat)
  | slotLost (slot : Nat) (reason : LossReason)
  | duplicateSuspect (slot : Nat)
  | peerUp (address : Nat)
  | peerDown (address : Nat)
  | configMismatch (address : Nat)
  | referenceChanged (reference : Nat) (resync : Bool)
  | laneHalted (lane : Nat) (reason : HaltReason)
  | packetConfirmed (lane : Nat) (seq : Seq)
  | rxDropped (lane source : Nat)
  | controlAbandoned (kind : CtlKind)
  | lineFault
  | eventsLost (count : Nat)
deriving DecidableEq, Repr

/-- A record of the event queue (R163). -/
structure EventRecord where
  event : Event
  cycle : CycleNum
deriving DecidableEq, Repr

/-- What a taken command still does at the end of its response or of its transaction (R156). -/
inductive Ending
  | none
  | fetch (lane : Nat)
  | event
  | reset
deriving DecidableEq, Repr

/-- The transaction in progress after its command is taken (R155, R156). `before` counts the bytes up to the one at which
it was taken, during which MISO reads 00h; `response` is the status and the data. -/
structure Transaction where
  before : Nat
  response : List Byte
  ending : Ending
deriving DecidableEq, Repr

/-- The host port. A transaction is present from the taking of its command to the rise of chip select (log entry 9). INT
and MISO are views (R154, R166). -/
structure HostPort where
  events : List EventRecord
  lost : Nat
  transaction : Option Transaction
deriving DecidableEq, Repr

/-- The RSTN pin and the supply (R169). -/
structure Power where
  rstnLow : Bool
  settled : Bool
deriving DecidableEq, Repr

/-- The whole station. `freeReads` and `pending` are the model's own. -/
structure State where
  line : LineUnit
  timer : CycleTimer
  station : StationControl
  sched : Schedule
  sender : OpenSender
  peers : List Peer
  tx : TxLanes
  delivery : Delivery
  rx : RxLanes
  port : HostPort
  power : Power
  /-- How many free orders, of R98 and of R14, have been read (log entries 7 and 8). -/
  freeReads : Nat
  /-- The commands that wait, first in first out. -/
  pending : List Instr
deriving DecidableEq, Repr

/-- The power-on values of every block (sections 1.8, 2.6, 3.7, R81, R93, R106, R126, R146, R153, R170), with the
station just released from reset: RSTN high and the supply settled (R169; log entry 13). -/
def State.reset : State where
  line := ⟨none, 0, false, [], false, none⟩
  timer := ⟨0, 0, 0, false, 0, .running, none, []⟩
  station := ⟨.unconfigured, 0, none, 0, false, 0⟩
  sched := ⟨[], none⟩
  sender := ⟨[], none, 0⟩
  peers := List.replicate 62 ⟨false, 0, false⟩
  tx := ⟨List.replicate 4 ⟨none, none, [], 0, false, 0, 0⟩, 3⟩
  delivery := ⟨List.replicate 248 none, []⟩
  rx := ⟨List.replicate 4 [], List.replicate 4 false⟩
  port := ⟨[], 0, none⟩
  power := ⟨false, true⟩
  freeReads := 0
  pending := []

end Sys2Proof.Machine
end

