-- ==== Sys2Proof/Machine/Operands.lean ====
section
/-!
DEFINITION. The formats of chapter 11: the cycle codes' slot counts, the CRC, and the link frame with its reader (every
check of R11 and R173) and its writer (R172).
-/

namespace Sys2Proof.Machine

/-- S, the slots of one cycle (R2). -/
def CycleCode.slots : CycleCode → Nat
  | .c16 => 16
  | .c32 => 32
  | .c64 => 64

/-- D, the scheduled slots of one cycle (R4, 00_scope 3.5). -/
def CycleCode.scheduled (c : CycleCode) : Nat := c.slots - 2

/-- The cycle code's value in a frame header and in CONFIGURE (R172, R175). -/
def CycleCode.byte : CycleCode → Nat
  | .c16 => 1
  | .c32 => 2
  | .c64 => 3

/-- The cycle code that a value names (R172, R175). -/
def CycleCode.ofNat? : Nat → Option CycleCode
  | 1 => some .c16
  | 2 => some .c32
  | 3 => some .c64
  | _ => none

/-- A natural number below 256 as a byte. -/
def byteOf (n : Nat) : Byte := BitVec.ofNat 8 n

/-- A flag as a record byte: 00h clear, 01h set (R176). -/
def flagByte (b : Bool) : Byte := if b then 1 else 0

/-- A 16-bit number, high byte first (R171). -/
def wordBytes (w : BitVec 16) : List Byte := [(w >>> 8).setWidth 8, w.setWidth 8]

/-- Two bytes, high first, as a 16-bit number (R171). -/
def wordOf (hi lo : Byte) : BitVec 16 := (hi.setWidth 16 <<< 8) ||| lo.setWidth 16

/-! ### The CRC (R174) -/

/-- One bit through the remainder register of x^16 + x^12 + x^5 + 1. -/
def crcBit (r : BitVec 16) (b : Bool) : BitVec 16 :=
  if r.msb != b then (r <<< 1) ^^^ 0x1021#16 else r <<< 1

/-- One byte through the register, most significant bit first. -/
def crcByte (r : BitVec 16) (b : Byte) : BitVec 16 :=
  [7, 6, 5, 4, 3, 2, 1, 0].foldl (fun r i => crcBit r (b.getLsbD i)) r

/-- The register after the bytes, started at FFFFh. -/
def crc (bytes : List Byte) : BitVec 16 := bytes.foldl crcByte 0xFFFF#16

/-! ### Link frames (R5 to R9, R172) -/

/-- A packet part (R7). -/
structure Packet where
  destination : Nat
  channel : Nat
  seq : Seq
  start : Bool
  payload : List Byte
deriving DecidableEq, Repr

/-- The frame header without the kind (R5). -/
structure Header where
  code : CycleCode
  sender : Nat
  slot : Nat
  cycle : CycleNum
  reference : Nat
deriving DecidableEq, Repr

/-- What a frame of each kind carries after the header (R6 to R9). -/
inductive FrameBody
  | data (acks : List AckEntry) (packet : Option Packet)
  | claim (slots : List Nat)
  | release (slots : List Nat)
  | leave
deriving DecidableEq, Repr

/-- A link frame. -/
structure Frame where
  header : Header
  body : FrameBody
deriving DecidableEq, Repr

/-- The kind's value in the header (R172). -/
def FrameBody.kindByte : FrameBody → Nat
  | .data .. => 1
  | .claim .. => 2
  | .release .. => 3
  | .leave => 4

/-- The two bytes of an ack entry (R172). -/
def AckEntry.bytes (a : AckEntry) : List Byte :=
  [byteOf (a.channel * 64 + a.station), byteOf ((if a.busy then 128 else 0) + a.next.toNat)]

/-- The bytes of a packet part (R172). -/
def Packet.bytes (p : Packet) : List Byte :=
  [byteOf (p.channel * 64 + p.destination), byteOf ((if p.start then 128 else 0) + p.seq.toNat),
    byteOf p.payload.length] ++ p.payload

/-- The bytes after the header and before the CRC (R172). -/
def FrameBody.bytes : FrameBody → List Byte
  | .data acks packet =>
      byteOf ((if packet.isSome then 128 else 0) + acks.length) :: (acks.flatMap AckEntry.bytes)
        ++ (match packet with | some p => p.bytes | none => [])
  | .claim slots => byteOf slots.length :: slots.map byteOf
  | .release slots => byteOf slots.length :: slots.map byteOf
  | .leave => []

/-- The six header bytes (R172). -/
def Header.bytes (h : Header) (kind : Nat) : List Byte :=
  [byteOf (kind * 16 + h.code.byte), byteOf h.sender, byteOf h.slot] ++ wordBytes h.cycle ++ [byteOf h.reference]

/-- A whole frame as it goes out, closed by the CRC high byte first (R15, R172, R174). -/
def Frame.bytes (f : Frame) : List Byte :=
  let open' := f.header.bytes f.body.kindByte ++ f.body.bytes
  open' ++ wordBytes (crc open')

/-- An ack entry from its two bytes; the bits the table does not assign are ignored (R171, R172). -/
def AckEntry.ofBytes (a b : Byte) : AckEntry :=
  ⟨a.toNat % 64, a.toNat / 64, b.setWidth 3, b.getLsbD 7⟩

/-- The k ack entries that open the list, with what follows them; none where the frame is too short (R173). -/
def readAcks : Nat → List Byte → Option (List AckEntry × List Byte)
  | 0, rest => some ([], rest)
  | k + 1, a :: b :: rest =>
      match readAcks k rest with
      | some (acks, tail) => some (AckEntry.ofBytes a b :: acks, tail)
      | none => none
  | _ + 1, _ => none

/-- A packet part that takes up exactly these bytes, with 1 to 32 payload bytes (R11, R172, R173). -/
def readPacket : List Byte → Option Packet
  | a :: b :: n :: payload =>
      if 1 ≤ n.toNat && n.toNat ≤ 32 && payload.length == n.toNat then
        some ⟨a.toNat % 64, a.toNat / 64, b.setWidth 3, b.getLsbD 7, payload⟩
      else none
  | _ => none

/-- A DATA frame's bytes after the header: at most 3 ack entries, and a packet part exactly where the descriptor says
so (R11, R172, R173). -/
def readData : List Byte → Option FrameBody
  | d :: rest =>
      if (d.toNat % 8) ≤ 3 then
        match readAcks (d.toNat % 8) rest with
        | some (acks, tail) =>
            if d.getLsbD 7 then (readPacket tail).map (fun p => .data acks (some p))
            else if tail.isEmpty then some (.data acks none) else none
        | none => none
      else none
  | [] => none

/-- A slot list of 1 to 8 numbers that takes up exactly these bytes (R11, R172, R173). -/
def readSlotList : List Byte → Option (List Nat)
  | n :: slots =>
      if 1 ≤ n.toNat && n.toNat ≤ 8 && slots.length == n.toNat then some (slots.map BitVec.toNat) else none
  | [] => none

/-- The bytes between header and CRC, read by the kind (R11: kind and length checks). -/
def readBody (kind : Nat) (bytes : List Byte) : Option FrameBody :=
  match kind with
  | 1 => readData bytes
  | 2 => (readSlotList bytes).map .claim
  | 3 => (readSlotList bytes).map .release
  | 4 => if bytes.isEmpty then some .leave else none
  | _ => none

/-- The kind-and-slot check of R11, against the frame's own cycle code. -/
def FrameBody.slotFits (b : FrameBody) (code : CycleCode) (slot : Nat) : Bool :=
  match b with
  | .data .. => slot < code.scheduled
  | _ => slot == code.scheduled || slot == code.scheduled + 1

/-- A valid frame of R11, read from the bytes the line unit took as one received frame (R173), at a station with this
own address; none where any check fails. `ragged` says that a last byte of fewer than eight bits followed. -/
def Frame.read (own : Nat) (bytes : List Byte) (ragged : Bool) : Option Frame :=
  if ragged || 50 < bytes.length || crc bytes != 0 then none
  else
    match bytes with
    | b0 :: sender :: slot :: c1 :: c0 :: ref :: rest =>
        if rest.length < 2 then none
        else
          match CycleCode.ofNat? (b0.toNat % 16), readBody (b0.toNat / 16) (rest.take (rest.length - 2)) with
          | some code, some body =>
              if body.slotFits code slot.toNat && 1 ≤ sender.toNat && sender.toNat ≤ 62 && sender.toNat != own then
                some ⟨⟨code, sender.toNat, slot.toNat, wordOf c1 c0, ref.toNat⟩, body⟩
              else none
          | _, _ => none
    | _ => none

end Sys2Proof.Machine
end

