-- ==== Sys2Proof/Machine/Ops.lean ====
section
/-!
DEFINITION. The shared operations over the state: the views that other blocks read (R57, R102), the event queue, the
control queue, the station's moves (home pick, OFFLINE, FAULT), the absence notice, and the endings of claims.
-/

namespace Sys2Proof.Machine

/-! ### Which blocks act -/

/-- The states in which the cycle timer runs and the line unit receives (R10, R20, R42, R95, R127). -/
def StationState.onLink : StationState → Bool
  | .unconfigured | .offline => false
  | _ => true

/-- The station is held in reset: RSTN low, or the supply not settled (R169). -/
def State.held (s : State) : Bool := s.power.rstnLow || !s.power.settled

/-- The timer runs and the line unit receives. -/
def State.active (s : State) : Bool := !s.held && s.station.life.onLink

/-- The station may carry frames in slots it holds (R15). -/
def State.serves (s : State) : Bool := s.station.life == .joined || s.station.life == .leaving

/-- The open-slot sender acts (R82). -/
def State.sendsControl (s : State) : Bool := s.serves || s.station.life == .joining

/-- S of the configured cycle code; 0 without one (R2). -/
def State.slotCount (s : State) : Nat :=
  match s.station.code with
  | some c => c.slots
  | none => 0

/-- D of the configured cycle code; 0 without one, when no entry is in use (R41, R56). -/
def State.scheduled (s : State) : Nat :=
  match s.station.code with
  | some c => c.scheduled
  | none => 0

/-! ### Slot table entries -/

/-- The three own states (R41). -/
def Entry.isOwn : Entry → Bool
  | .ownClaiming .. | .ownHeld .. | .ownYielding .. => true
  | _ => false

/-- The entry carries the home flag (R60). -/
def Entry.isHome : Entry → Bool
  | .ownClaiming _ h _ | .ownHeld _ h _ | .ownYielding _ h _ _ => h
  | _ => false

/-- The entry is claimed and not yet held. -/
def Entry.isClaiming : Entry → Bool
  | .ownClaiming .. => true
  | _ => false

/-- The entry is OWN_HELD. -/
def Entry.isHeld : Entry → Bool
  | .ownHeld .. => true
  | _ => false

/-- The binding of an own entry (R60). -/
def Entry.binding? : Entry → Option Binding
  | .ownClaiming b _ _ | .ownHeld b _ _ | .ownYielding b _ _ _ => some b
  | _ => none

/-- The peer that owns the entry (R41). -/
def Entry.peer? : Entry → Option Nat
  | .peerPending x _ | .peerHeld x _ => some x
  | _ => none

/-- The entry takes the home flag and keeps its binding (R78). -/
def Entry.promote : Entry → Entry
  | .ownHeld b _ r => .ownHeld b true r
  | e => e

/-- FREE where the test holds, kept otherwise. -/
def Entry.freeIf (p : Entry → Bool) (e : Entry) : Entry := if p e then .free else e

/-- The slot table entry of a slot (R41); a slot without an entry reads as FREE. -/
def State.entry (s : State) (n : Nat) : Entry := s.sched.slots.getD n .free

/-- One entry changed. -/
def State.setEntry (s : State) (n : Nat) (e : Entry) : State :=
  { s with sched.slots := s.sched.slots.set n e }

/-- Every entry for which the test holds becomes FREE. -/
def State.freeEntries (s : State) (p : Entry → Bool) : State :=
  { s with sched.slots := s.sched.slots.map (Entry.freeIf p) }

/-- The numbers of the entries for which the test holds, ascending. -/
def State.slotsWhere (s : State) (p : Entry → Bool) : List Nat :=
  (List.range s.sched.slots.length).filter (fun n => p (s.entry n))

/-- The own slot count (R57). -/
def State.ownSlots (s : State) : Nat := s.sched.slots.countP Entry.isOwn

/-- The home slot, or none (R57). -/
def State.homeSlot (s : State) : Option Nat := s.sched.slots.findIdx? Entry.isHome

/-- The lowest-numbered FREE slot (R57). -/
def State.lowestFree (s : State) : Option Nat := s.sched.slots.findIdx? (· == .free)

/-! ### Peers, lanes, receive lanes -/

/-- The peer record of an address (R94). -/
def State.peer (s : State) (a : Nat) : Peer := s.peers.getD (a - 1) ⟨false, 0, false⟩

/-- The record of an address replaced. Addresses outside 1 to 62 have none. -/
def State.setPeer (s : State) (a : Nat) (r : Peer) : State :=
  if 1 ≤ a then { s with peers := s.peers.set (a - 1) r } else s

/-- The address is that of a peer the station holds PRESENT (R21, R102). -/
def State.isPresentPeer (s : State) (a : Nat) : Bool :=
  1 ≤ a && a ≤ 62 && a != s.station.address && (s.peer a).present

/-- A transmit lane (R109); a lane number above 3 reads as a disabled lane. -/
def State.lane (s : State) (l : Nat) : TxLane := s.tx.lanes.getD l ⟨none, none, [], 0, false, 0, 0⟩

/-- One transmit lane changed. -/
def State.setLane (s : State) (l : Nat) (t : TxLane) : State := { s with tx.lanes := s.tx.lanes.set l t }

/-- Every transmit lane changed by one function. -/
def State.mapLanes (s : State) (f : TxLane → TxLane) : State := { s with tx.lanes := s.tx.lanes.map f }

/-- The lane is enabled (R107). -/
def TxLane.enabled (t : TxLane) : Bool := t.config.isSome

/-- The lane is READY (R109). -/
def TxLane.ready (t : TxLane) : Bool := t.config.isSome && t.halt.isNone

/-- The lane is a unicast lane to this destination. -/
def TxLane.isTo (t : TxLane) (p : Nat) : Bool :=
  match t.config with
  | some c => c.destination == p && c.destination != 63
  | none => false

/-- The depth of an enabled lane (R107); 0 for a disabled one. -/
def TxLane.depth (t : TxLane) : Nat :=
  match t.config with
  | some c => if c.maxPayload * 2 ≤ c.share then 2 else if c.maxPayload ≤ c.share then 1 else 0
  | none => 0

/-- The records of a receive lane (R147). -/
def State.rxLane (s : State) (l : Nat) : List RxRecord := s.rx.lanes.getD l []

/-- The receive lane has room (R131, R147). -/
def State.rxRoom (s : State) (c : Nat) : Bool := (s.rxLane c).length < 2

/-! ### The event queue (R163) -/

/-- A post: the record is appended at the tail with the cycle number at that instant, or, at a full queue, discarded
with the lost count increased up to 255. -/
def State.post (s : State) (e : Event) : State :=
  if s.port.events.length < 16 then { s with port.events := s.port.events ++ [⟨e, s.timer.cycle⟩] }
  else { s with port.lost := min (s.port.lost + 1) 255 }

/-- Several posts of one cause in their order (R163). -/
def State.postAll (s : State) (es : List Event) : State := es.foldl State.post s

/-! ### The control queue (R82 to R91) -/

/-- The generator's next value (R84). -/
def State.nextGenerator (s : State) : Nat := (5 * s.sender.generator + 2 * s.station.address + 1) % 64

/-- The head of the queue has just become the head: attempts 0, window 2 and a backoff drawn (R83). An empty queue has
no attempt state and draws nothing. -/
def State.newHead (s : State) : State :=
  match s.sender.queue with
  | [] => { s with sender.attempt := none }
  | _ :: _ => { s with
      sender.attempt := some ⟨0, 2, s.sender.generator % 2⟩
      sender.generator := s.nextGenerator }

/-- A frame appended at the tail (R88, R89); on an empty queue it becomes the head (R83). -/
def State.appendControl (s : State) (f : CtlFrame) : State :=
  let s' := { s with sender.queue := s.sender.queue ++ [f] }
  if s.sender.queue.isEmpty then s'.newHead else s'

/-- The head leaves the queue, and the next frame, if any, becomes the head (R83, R85, R87). -/
def State.dropHead (s : State) : State := State.newHead { s with sender.queue := s.sender.queue.tail }

/-- The queue is emptied; the generator is not touched (R91). -/
def State.clearQueue (s : State) : State := { s with sender.queue := [], sender.attempt := none }

/-- The head of the queue is on the line (R15, R90). -/
def State.headOnLine (s : State) : Bool :=
  match s.line.own with
  | some ⟨.control _ false, _, _, false⟩ => true
  | _ => false

/-- The CLAIM frame leaves the queue (R33, R68, R88); a frame behind it that so becomes the head draws (R83). -/
def State.dropClaim (s : State) : State :=
  match s.sender.queue with
  | [] => s
  | f :: rest =>
      if f.kind == .claim then State.newHead { s with sender.queue := rest }
      else { s with sender.queue := f :: rest.filter (·.kind != .claim) }

/-- A lost slot is removed from the queued CLAIM frame, and the frame with its last slot (R68, R88). -/
def State.editClaim (s : State) (n : Nat) : State :=
  let strip := fun (f : CtlFrame) => if f.kind == .claim then { f with slots := f.slots.filter (· != n) } else f
  let q := s.sender.queue.map strip
  let s' := { s with sender.queue := q }
  if q.any (fun f => f.kind == .claim && f.slots.isEmpty) then s'.dropClaim else s'

/-- A slot number put into an ascending list, each once (R8, R89). -/
def insertSlot (n : Nat) : List Nat → List Nat
  | [] => [n]
  | m :: ms => if n < m then n :: m :: ms else if n = m then m :: ms else m :: insertSlot n ms

/-- The place of the newest RELEASE frame that is not on the line, if its list has room for every slot of the release
(R89). -/
def mergePlace (onLine : Bool) (queue : List CtlFrame) (slots : List Nat) : Option Nat :=
  let open' := (List.range queue.length).filter fun i =>
    (queue.getD i ⟨.leave, []⟩).kind == .release && !(i == 0 && onLine)
  match open'.getLast? with
  | some i => if (queue.getD i ⟨.leave, []⟩).slots.length + slots.length ≤ 8 then some i else none
  | none => none

/-- A release handed to the open-slot sender: merged, appended or dropped (R89). -/
def State.placeRelease (s : State) (slots : List Nat) : State :=
  match mergePlace s.headOnLine s.sender.queue slots with
  | some i => { s with
      sender.queue := s.sender.queue.modify i fun f => { f with slots := slots.foldl (fun l n => insertSlot n l) f.slots } }
  | none => if s.sender.queue.length < 4 then s.appendControl ⟨.release, slots⟩ else s

/-- A LEAVE frame replaces the whole queue and becomes the head; a control frame on the line goes on as a replaced
frame (R90). -/
def State.replaceQueue (s : State) : State :=
  let own := s.line.own.map fun f =>
    match f.source with
    | .control c _ => { f with source := .control c true }
    | .data _ => f
  State.newHead { s with line.own := own, sender.queue := [⟨.leave, []⟩] }

/-! ### Moves of the station -/

/-- A home pick (R30, R64): the lowest FREE slot becomes the home claim and its CLAIM is queued, or the station becomes
WAITING with an empty queue (R91) and, unless it was WAITING already, posts so. -/
def State.homePick (s : State) : State :=
  match (if s.sender.queue.length < 4 then s.lowestFree else none) with
  | some n =>
      let s := s.setEntry n (.ownClaiming .shared true none)
      State.appendControl { s with station.life := .joining, sched.claim := some ⟨.home, .unsent⟩ } ⟨.claim, [n]⟩
  | none =>
      if s.station.life == .waiting then s
      else State.post (State.clearQueue { s with station.life := .waiting }) .waiting

/-- A lane at the move to OFFLINE: no positions, READY if enabled, disarmed; sequence and configuration kept (R125). -/
def TxLane.offline (t : TxLane) : TxLane :=
  { t with halt := none, positions := [], armed := false, busyHold := 0, busyCount := 0 }

/-- A lane at the RESET command: as at OFFLINE, with the next sequence 0 (R126). -/
def TxLane.resetLane (t : TxLane) : TxLane := { t.offline with nextSeq := 0 }

/-- The stopped timer of section 2.6 with this reference. -/
def stoppedTimer (reference : Nat) : CycleTimer := ⟨0, 0, reference, false, 0, .running, none, []⟩

/-- What the move to OFFLINE and the RESET command clear alike in every block but the line's own frame, the transmit
lanes and the host port (R37, R40, R56, R81, R93, R106, R146, R153). -/
def State.clearLink (s : State) : State :=
  { s with
    line := ⟨s.line.own, 0, false, [], false, none⟩
    timer := stoppedTimer s.station.address
    station := { s.station with listenCount := 0, restartMark := false, leaveCount := 0 }
    sched := ⟨List.replicate s.scheduled .free, none⟩
    sender := ⟨[], none, 0⟩
    peers := List.replicate 62 ⟨false, 0, false⟩
    delivery := ⟨List.replicate 248 none, []⟩
    rx := { s.rx with lanes := List.replicate 4 [] } }

/-- The move to OFFLINE (R37) with its LEFT event, which carries the cycle number in force just before the timer stops.
An own frame on the line runs on with its result discarded (R15). -/
def State.moveOffline (s : State) (reason : LeftReason) : State :=
  let s := (s.post (.left reason)).clearLink
  { s with
    line.own := s.line.own.map fun f => { f with discarded := true }
    station.life := .offline
    tx := ⟨s.tx.lanes.map TxLane.offline, 3⟩ }

/-- The events that end a claim without a win: RESERVE_DONE(lane, 0) for a reservation, none for a home claim (R70). -/
def Claim.lossEvents (c : Claim) : List Event :=
  match c.kind with
  | .reservation lane => [.reserveDone lane 0]
  | .home => []

/-- The claim in flight ends with nothing gained and its OWN_CLAIMING entries FREE (R33, R35, R71, R80). -/
def State.endClaim (s : State) : State :=
  match s.sched.claim with
  | none => s
  | some c =>
      State.postAll { s.freeEntries Entry.isClaiming with sched.claim := none } c.lossEvents

/-- Entry to FAULT (R38, R55, R81, R93, R145), at the frame end of the eighth failure in a row. -/
def State.enterFault (s : State) : State :=
  let s := s.post .lineFault
  let ended := match s.sched.claim with | some c => c.lossEvents | none => []
  let s := (s.freeEntries Entry.isOwn).clearQueue
  State.postAll
    { s with
      line.faultCount := 8
      station := { s.station with life := .fault, listenCount := 0, restartMark := false, leaveCount := 0 }
      sched.claim := none
      delivery := ⟨List.replicate 248 none, []⟩ }
    ended

/-- The home slot is lost and its events are posted (R33, R36, R78): the lowest OWN_HELD entry takes the home flag, or
a LEAVING station moves to OFFLINE, or a JOINED station gives up its yielding slots and its reservation and makes a
home pick. -/
def State.homeLost (s : State) : State :=
  match s.sched.slots.findIdx? Entry.isHeld with
  | some n => s.setEntry n (s.entry n).promote
  | none =>
      match s.station.life with
      | .leaving => s.moveOffline .host
      | .joined =>
          let s := s.freeEntries (fun e => e.isOwn && !e.isClaiming)
          let s := if s.sched.claim.isSome then s.dropClaim else s
          s.endClaim.homePick
      | _ => s

/-- The claim in flight has lost its last entry (R68 to R70): a reservation completes with 0, a lost home claim is
followed at once by a new pick (R32). -/
def State.claimLost (s : State) : State :=
  match s.sched.claim with
  | none => s
  | some c =>
      let s := State.postAll { s with sched.claim := none } c.lossEvents
      if c.kind == .home then s.homePick else s

/-- The claim engine's loss notice for a slot whose entry was `before` (R45): an own claim (R68, R69) or a yielding slot
(R76). -/
def State.lossNotice (s : State) (n : Nat) (before : Entry) : State :=
  match before with
  | .ownClaiming .. =>
      let s := match s.sched.claim with
        | some ⟨_, .unsent⟩ => s.editClaim n
        | _ => s
      if s.sched.slots.any Entry.isClaiming then s else s.claimLost
  | .ownYielding _ home _ _ =>
      let s := s.post (.slotLost n .yielded)
      if home then s.homeLost else s
  | _ => s

/-- A lane's SENT positions become COMMITTED in place and keep sequence and payload (R117, R119). -/
def Position.unsend (p : Position) : Position :=
  match p.phase with
  | .sent .. => { p with phase := .committed }
  | _ => p

/-- A READY lane at the move to JOINED: armed, its SENT positions COMMITTED (R32, R119). -/
def TxLane.armAtJoin (t : TxLane) : TxLane :=
  if t.ready then { t with armed := true, positions := t.positions.map Position.unsend } else t

/-- The win of the claim in flight (R67, R70): its entries become OWN_HELD in round 0; a reservation reports the number
won, a home claim makes the station JOINED (R32). -/
def State.winClaim (s : State) : State :=
  match s.sched.claim with
  | some ⟨kind, .announced false⟩ =>
      let won := s.sched.slots.countP Entry.isClaiming
      let win := fun (e : Entry) => match e with
        | .ownClaiming b h _ => .ownHeld b h 0
        | e => e
      let s := { s with sched.slots := s.sched.slots.map win, sched.claim := none }
      match kind with
      | .reservation lane => s.post (.reserveDone lane won)
      | .home =>
          let s := { s with station.life := .joined }
          (s.mapLanes TxLane.armAtJoin).post (.joined ((s.homeSlot).getD 0))
  | _ => s

/-! ### Lane halts and the absence notice -/

/-- A READY unicast lane halts with a reason and posts so; a lane already HALTED keeps its first reason (R110). -/
def State.haltLane (s : State) (l : Nat) (r : HaltReason) : State :=
  if (s.lane l).ready then (s.setLane l { s.lane l with halt := some r }).post (.laneHalted l r) else s

/-- The lanes that an absence of this peer halts, ascending (R98). -/
def State.lanesTo (s : State) (p : Nat) : List Nat :=
  [0, 1, 2, 3].filter fun l => (s.lane l).ready && (s.lane l).isTo p

/-- The reference falls back to the own address (R26). -/
def State.fallBack (s : State) : State :=
  let s := { s with timer.reference := s.station.address }
  if s.station.life == .listening then s else s.post (.referenceChanged s.station.address false)

/-- The receive context of a pair (R128). -/
def contextIndex (p c : Nat) : Nat := (p - 1) * 4 + c

/-- Two changes of one instant whose order the spec leaves open. Where both orders give one state, that state; where
they differ, a free value says which comes about (log entries 7 and 8). -/
def State.eitherOrder (choice : Nat → Bool) (f g : State → State) (s : State) : State :=
  let fg := g (f s)
  let gf := f (g s)
  if fg = gf then fg
  else if choice s.freeReads then { fg with freeReads := s.freeReads + 1 }
  else { gf with freeReads := s.freeReads + 1 }

/-- The unicast lanes to an absent peer halt, ascending (R98, R110). -/
def State.haltLanesTo (s : State) (p : Nat) : State :=
  (s.lanesTo p).foldl (fun s l => s.haltLane l .absent) s

/-- The absence notice for a peer in its four blocks (R54, R98, R135). -/
def State.absenceNotice (s : State) (p : Nat) : State :=
  let s := s.freeEntries (fun e => e.peer? == some p)
  let s := { s with
    delivery.contexts := [0, 1, 2, 3].foldl (fun cs c => cs.set (contextIndex p c) none) s.delivery.contexts
    delivery.owed := s.delivery.owed.filter (·.station != p) }
  if s.timer.reference == p then
    s.eitherOrder Config.fallbackFirst State.fallBack (fun s => s.haltLanesTo p)
  else s.haltLanesTo p

end Sys2Proof.Machine
end

