-- ==== Sys2Proof/Machine/Receive.lean ====
section
/-!
DEFINITION. The acceptance of a received frame in the stages of R14: the line unit's reception (R10 to R13), the cycle
timer's decision (R21 to R24, R28), the peer table (R96, R99, R100), learning (R43 to R47) and delivery (R129 to R138).
-/

namespace Sys2Proof.Machine

/-! ### Reception (R10) -/

/-- Whether the station, as it stands, begins an own transmission at the start of slot `m` (R15, R85, R122). -/
def State.transmitsIn (s : State) (m : Nat) : Bool :=
  if m < s.scheduled then (s.entry m).isHeld && s.serves
  else
    s.sendsControl &&
    match s.sender.queue, s.sender.attempt with
    | f :: _, some a => a.backoff == 0 && (f.kind != .claim || s.timer.relearnHold == 0)
    | _, _ => false

/-- The slot that follows the one in progress. -/
def State.nextSlot (s : State) : Nat := if s.timer.position + 1 < s.slotCount then s.timer.position + 1 else 0

/-- The frame ends at the instant of a slot start that is still to be marked. -/
def State.meetsStart (s : State) (span : FrameSpan) : Bool :=
  match span with
  | .inSlot => false
  | .atSlotEnd => true
  | .overSlotEnd => s.timer.phase != .running

/-- The own transmission that would abandon the frame at the instant of its end begins there, as the station stands
(R10). -/
def State.sendsAtEnd (s : State) (span : FrameSpan) : Bool :=
  s.meetsStart span &&
    s.transmitsIn (if span == .overSlotEnd && s.timer.phase == .starting then s.timer.position else s.nextSlot)

/-- The line unit has received a frame of this span to its end: the station is not sending, none of its transmissions has
begun since the frame's first bit (R10; log entry 3), and no other frame ended at the same instant. -/
def State.receives (s : State) (span : FrameSpan) : Bool :=
  s.active && s.line.own.isNone && s.line.atStart.isNone
  && (span != .overSlotEnd || (s.timer.lastSlot.isSome && !s.line.sentInSlot))

/-- Whether the line unit takes a frame of this span at once (R10; log entry 5). -/
def State.hears (s : State) (span : FrameSpan) : Bool := s.receives span && !s.sendsAtEnd span

/-- Whether the frame waits for the slot start at which it ends, where an own transmission may begin (R10; log entry 5).
-/
def State.waits (s : State) (span : FrameSpan) : Bool := s.receives span && s.sendsAtEnd span

/-- The slot position and cycle number in force when the frame's first bit arrived (R10). -/
def State.attribution (s : State) (span : FrameSpan) : Option (Nat × CycleNum) :=
  match span with
  | .overSlotEnd => s.timer.lastSlot
  | _ => some (s.timer.position, s.timer.cycle)

/-! ### The cycle timer's decision -/

/-- What the cycle timer does with a matching frame. -/
inductive Timing
  | adopted | resynced | trimmed | ignored
deriving DecidableEq, Repr

/-- The candidate of a matching frame (R21). -/
def State.candidate (s : State) (h : Header) : Nat :=
  if h.reference == h.sender || s.isPresentPeer h.reference then h.reference else h.sender

/-- The count that ran out is one that a frame whose timing is taken sets anew: silence and expiry go with the entries it
frees, and deadlines, relearn hold and listen count start again (R24, R28, R48; log entry 23). A due absence stays, so
that the frame and the count meet in the orders of R101. -/
def Due.renewed (d : Due) : Bool :=
  match d with
  | .lapse _ | .pendingExpiry _ | .deadline _ _ | .relearnHold | .listenEnd => true
  | .yieldEnd _ | .barExpire _ | .settle | .waitingPick | .leaveTimeout | .absence _ | .busyHold _ => false

/-- Slot position and cycle number taken from a header: the adopted slot is in progress from the frame's first bit, the
occurrence in progress before ends unmarked, and no count of the old timing steps what the frame sets anew (R24, R28,
R48, R53). DEDUCED, log entry 25: between SLOT_END of slot S-1 and CYCLE_START of that instant the slot end stays marked
and the cycle start of the old timing is never marked. -/
def State.takeTiming (s : State) (h : Header) : State :=
  { s with
    timer := { s.timer with
      position := h.slot, cycle := h.cycle, phase := .running, lastSlot := none
      due := s.timer.due.filter (!·.renewed) }
    line := { s.line with sentInSlot := false, heardData := [], heardValid := false } }

/-- A SENT position's deadline at a resync: the new cycle number plus 4 (R24, R140). -/
def Position.renewDeadline (cycle : CycleNum) (p : Position) : Position :=
  match p.phase with
  | .sent st r _ el => { p with phase := .sent st r (cycle + 4) el }
  | _ => p

/-- A resync (R24, R25, R28, R53). -/
def State.resync (s : State) (h : Header) : State :=
  let s := (s.takeTiming h).freeEntries (fun e => e.peer?.isSome)
  let s := s.mapLanes fun t => { t with positions := t.positions.map (Position.renewDeadline h.cycle) }
  if s.station.life == .listening then { s with station.restartMark := true }
  else { s with timer.relearnHold := 2 }

/-- The adoption of the first valid matching frame while listening (R28). -/
def State.adopt (s : State) (h : Header) : State :=
  let cand := s.candidate h
  let s := s.takeTiming h
  { s with
    timer.acquired := true
    timer.reference := if cand < s.station.address then cand else s.station.address
    station.restartMark := true }

/-- REFERENCE_CHANGED, which LISTENING does not post (R22, R28). -/
def State.postReference (s : State) (r : Nat) (resync : Bool) : State :=
  if s.station.life == .listening then s else s.post (.referenceChanged r resync)

/-- The timing decision on a valid matching frame, and what it was (R22, R28). `arrives` says that the frame arrives
aligned. A trim moves boundaries only, so it leaves the state as it is (R23). -/
def State.decideTiming (s : State) (h : Header) (arrives : Bool) : State × Timing :=
  let cand := s.candidate h
  if s.station.life == .listening && !s.timer.acquired then (s.adopt h, .adopted)
  else if cand < s.timer.reference then
    let s := { s with timer.reference := cand }
    if arrives then (s.postReference cand false, .trimmed) else ((s.resync h).postReference cand true, .resynced)
  else if cand == s.timer.reference then
    if arrives then (s, .trimmed)
    else if h.sender == s.timer.reference then ((s.resync h).postReference cand true, .resynced)
    else (s, .ignored)
  else (s, .ignored)

/-! ### The peer table -/

/-- A matching frame other than an aligned LEAVE: presence of its sender (R96). -/
def State.peerHeard (s : State) (x : Nat) : State :=
  let was := (s.peer x).present
  let s := s.setPeer x ⟨true, 0, false⟩
  if was then s else s.post (.peerUp x)

/-- An aligned LEAVE frame: the sender's leave (R99). -/
def State.peerLeft (s : State) (x : Nat) : State :=
  let r := s.peer x
  let s := s.setPeer x { r with present := false, mismatch := false }
  if r.present then (s.post (.peerDown x)).absenceNotice x else s

/-- A mismatched frame (R100). -/
def State.peerMismatched (s : State) (x : Nat) : State :=
  let r := s.peer x
  if r.mismatch then s else (s.setPeer x { r with mismatch := true }).post (.configMismatch x)

/-! ### Learning -/

/-- An aligned DATA frame from `x` in slot `n` (R43, R45). -/
def State.learnData (s : State) (x n : Nat) : State :=
  if n < s.scheduled && !(s.entry n).isHeld then (s.setEntry n (.peerHeld x 0)).lossNotice n (s.entry n) else s

/-- An aligned CLAIM frame from `x` on one listed slot (R44, R45). -/
def State.learnClaim (s : State) (x n : Nat) : State :=
  let taken := (s.setEntry n (.peerPending x 6)).lossNotice n (s.entry n)
  if n < s.scheduled then
    match s.entry n with
    | .free => taken
    | .peerPending y _ => if x ≤ y then taken else s
    | .ownClaiming .. => if x < s.station.address then taken else s
    | .barred _ | .peerHeld .. | .ownHeld .. | .ownYielding .. => s
  else s

/-- An aligned RELEASE frame from `x` on one listed slot (R46). -/
def State.learnRelease (s : State) (x n : Nat) : State :=
  if n < s.scheduled && (s.entry n).peer? == some x then s.setEntry n .free else s

/-- A received slot list with each number once, in list order (R8, R42). -/
def eachOnce (slots : List Nat) : List Nat :=
  slots.foldl (fun seen n => if seen.contains n then seen else seen ++ [n]) []

/-- The schedule unit takes an aligned frame (R42 to R47). -/
def State.learn (s : State) (f : Frame) : State :=
  let x := f.header.sender
  match f.body with
  | .data .. => s.learnData x f.header.slot
  | .claim slots => (eachOnce slots).foldl (fun s n => s.learnClaim x n) s
  | .release slots => (eachOnce slots).foldl (fun s n => s.learnRelease x n) s
  | .leave => s.freeEntries (fun e => e.peer? == some x)

/-! ### Acks applied (R136 to R139) -/

/-- The position is SENT with this sequence. -/
def Position.sentWith (p : Position) (q : Seq) : Bool :=
  match p.phase with
  | .sent .. => p.seq == some q
  | _ => false

/-- The position is SENT and an ack with next expected `e` covers it (R137). -/
def Position.coveredBy (p : Position) (e : Seq) : Bool := p.sentWith (e - 1) || p.sentWith (e - 2)

/-- A busy ack on the position it names: retries 0 and retransmit-eligible (R138). -/
def Position.busied (e : Seq) (p : Position) : Position :=
  match p.phase with
  | .sent st _ d _ => if p.seq == some e then { p with phase := .sent st 0 d true } else p
  | _ => p

/-- The unicast lane with this destination and channel (R136). -/
def State.laneFor (s : State) (p c : Nat) : Option Nat :=
  [0, 1, 2, 3].find? fun l => (s.lane l).isTo p && ((s.lane l).config.map (·.channel)) == some c

/-- The freeing of an ack entry on a lane, with its PACKET_CONFIRMED events oldest first (R137). -/
def State.ackFree (s : State) (l : Nat) (e : Seq) : State :=
  let t := s.lane l
  let freed := t.positions.filter (·.coveredBy e)
  let confirm := (t.config.map (·.confirm)).getD false
  let s := s.setLane l { t with
    positions := t.positions.filter (fun p => !p.coveredBy e)
    busyCount := if freed.isEmpty then t.busyCount else 0 }
  if confirm then s.postAll (freed.map fun p => .packetConfirmed l (p.seq.getD 0)) else s

/-- The busy handling of an ack entry on a lane (R111, R138). -/
def State.ackBusy (s : State) (l : Nat) (e : Seq) : State :=
  let t := s.lane l
  if t.positions.any (·.sentWith e) then
    let count := min (t.busyCount + 1) 64
    let s := s.setLane l { t with positions := t.positions.map (Position.busied e), busyHold := 2, busyCount := count }
    if count = 64 then s.haltLane l .busyLimit else s
  else s

/-- One ack entry of an aligned DATA frame from `p` (R136). -/
def State.applyAck (s : State) (p : Nat) (a : AckEntry) : State :=
  if a.station == s.station.address then
    match s.laneFor p a.channel with
    | some l =>
        let s := s.ackFree l a.next
        if a.busy then s.ackBusy l a.next else s
    | none => s
  else s

/-! ### Packets judged (R129 to R133, R148) -/

/-- The receive context for a pair (R128). -/
def State.context (s : State) (p c : Nat) : Option Seq := s.delivery.contexts.getD (contextIndex p c) none

/-- The receive context for a pair, set. -/
def State.setContext (s : State) (p c : Nat) (v : Option Seq) : State :=
  { s with delivery.contexts := s.delivery.contexts.set (contextIndex p c) v }

/-- The ack-owed list after an ack is owed (R133): replaced in place, or appended, at eight entries without the head. -/
def oweAck (owed : List AckEntry) (a : AckEntry) : List AckEntry :=
  if owed.any (fun o => o.station == a.station && o.channel == a.channel) then
    owed.map fun o => if o.station == a.station && o.channel == a.channel then a else o
  else if owed.length < 8 then owed ++ [a]
  else owed.tail ++ [a]

/-- An ack is owed for a pair (R133). -/
def State.owe (s : State) (p c : Nat) (e : Seq) (busy : Bool) : State :=
  { s with delivery.owed := oweAck s.delivery.owed ⟨p, c, e, busy⟩ }

/-- A delivery into receive lane `c` (R131, R148). -/
def State.deliver (s : State) (p c : Nat) (broadcast : Bool) (payload : List Byte) : State :=
  { s with rx.lanes := s.rx.lanes.modify c (· ++ [⟨p, broadcast, payload, s.timer.cycle⟩]) }

/-- A packet without start flag, or as one, with expected sequence `e` (R130, rows four to seven). -/
def State.judgeInOrder (s : State) (p : Nat) (k : Packet) (e : Seq) : State :=
  if k.seq = e then
    if s.rxRoom k.channel then
      State.owe ((s.deliver p k.channel false k.payload).setContext p k.channel (some (e + 1))) p k.channel (e + 1) false
    else s.owe p k.channel e true
  else if k.seq = e - 1 || k.seq = e - 2 then s.owe p k.channel e false
  else s

/-- The unicast judgement (R130). -/
def State.judgeUnicast (s : State) (p : Nat) (k : Packet) : State :=
  match k.start, s.context p k.channel with
  | true, some e =>
      if k.seq = e - 1 then s.owe p k.channel e false
      else (s.setContext p k.channel (some k.seq)).judgeInOrder p k k.seq
  | true, none => (s.setContext p k.channel (some k.seq)).judgeInOrder p k k.seq
  | false, some e => s.judgeInOrder p k e
  | false, none => s

/-- The broadcast judgement (R132). -/
def State.judgeBroadcast (s : State) (p : Nat) (k : Packet) : State :=
  if s.rxRoom k.channel then s.deliver p k.channel true k.payload else s.post (.rxDropped k.channel p)

/-- The packet part of an aligned DATA frame from `p` (R129). -/
def State.judge (s : State) (p : Nat) (k : Packet) : State :=
  if s.station.life == .joined then
    if k.destination == s.station.address then s.judgeUnicast p k
    else if k.destination == 63 then s.judgeBroadcast p k
    else s
  else s

/-- The delivery unit takes an aligned frame: the ack entries in list order, then the packet part (R127). -/
def State.takeDelivery (s : State) (f : Frame) : State :=
  match f.body with
  | .data acks packet =>
      let s := acks.foldl (fun s a => s.applyAck f.header.sender a) s
      match packet with
      | some k => s.judge f.header.sender k
      | none => s
  | _ => s

/-! ### The stages together (R14) -/

/-- The line unit's report of what was heard in the slot in progress (R14, R48, R75): a valid frame whose frame end
comes before that slot's end, and the sender of an aligned DATA frame. A frame taken that ends at a slot start still to
be marked is noted for that start (R10; log entry 5). -/
def State.report (s : State) (span : FrameSpan) (heard : Bool) (dataFrom : Option Nat) : State :=
  if heard then
    { s with
      line.heardValid := true
      line.heardData := match dataFrom with | some x => s.line.heardData ++ [x] | none => s.line.heardData }
  else if s.meetsStart span then { s with line.atStart := some .taken }
  else s

/-- Whether the frame counts as heard in the slot in progress: it lay inside it, or its slot is the adopted one, or a
trim moved the slot end behind it (R14, R24, R48; log entry 5). -/
def heardInSlot (span : FrameSpan) (t : Timing) : Bool :=
  span == .inSlot || t == .adopted || t == .resynced || (span == .atSlotEnd && t == .trimmed)

/-- A matching frame through the stages (R14). `arrives` says that it arrives aligned. -/
def State.acceptMatching (s : State) (f : Frame) (span : FrameSpan) (arrives : Bool) : State :=
  let x := f.header.sender
  let r := s.decideTiming f.header arrives
  let aligned := arrives || r.2 == .adopted || r.2 == .resynced
  let isData := match f.body with | .data .. => true | _ => false
  let s := r.1.report span (heardInSlot span r.2) (if aligned && isData then some x else none)
  if aligned then
    let s := if f.body == .leave then s.peerLeft x else s.peerHeard x
    if isData then s.eitherOrder Config.learnFirst (fun s => s.learn f) (fun s => s.takeDelivery f) else s.learn f
  else s.peerHeard x

/-- A valid frame of the station's own or another cycle code (R12, R13). -/
def State.accept (s : State) (f : Frame) (span : FrameSpan) : State :=
  match s.attribution span with
  | none => s
  | some (position, cycle) =>
      if some f.header.code == s.station.code then
        s.acceptMatching f span (f.header.slot == position && f.header.cycle == cycle)
      else (s.report span (span == .inSlot) none).peerMismatched f.header.sender

/-- A valid frame goes to the blocks where the line unit takes it. -/
def State.takeFrame (s : State) (f : Frame) (span : FrameSpan) : State := if s.hears span then s.accept f span else s

/-! ### A frame that ends at a slot start (R10) -/

/-- The slot start in progress is marked (R2, R15: at most one frame in one slot). -/
def State.markStart (s : State) : State := { s with timer.phase := .running, line.atStart := none }

/-- The frame that was under way at the slot start just marked: discarded where an own transmission has begun there, and
taken otherwise (R10). It ends behind the slot end before. -/
def State.takeUnderWay (s : State) (bytes : List Byte) : State :=
  match Frame.read s.station.address bytes false with
  | some f => s.takeFrame f .overSlotEnd
  | none => s

/-- The slot start passes with no own transmission. -/
def State.passStart (s : State) : State :=
  match s.line.atStart with
  | some (.underWay bytes) => s.markStart.takeUnderWay bytes
  | some .taken | none => s.markStart

/-- What comes after the slot start finds it marked (log entry 11). -/
def State.startPassed (s : State) : State := if s.active && s.timer.phase == .starting then s.passStart else s

/-- The slot start is marked and a block makes its offer there. A frame that was under way is then discarded or taken, and
where a frame was taken at that instant no own transmission begins (R10; log entry 5). -/
def State.startWith (s : State) (offer : State → State) : State :=
  match s.line.atStart with
  | none => offer s.markStart
  | some .taken => if s.transmitsIn s.timer.position then s.markStart else offer s.markStart
  | some (.underWay bytes) => (offer s.markStart).takeUnderWay bytes

/-! ### The row -/

/-- The line unit at a frame end. A frame that fails a check of R11, or that the line unit does not take, goes to no
block. A frame that lies in the slot in progress ends after its start, and one at whose end an own transmission may
begin waits for that slot start (R10). -/
def State.receive (s : State) (bytes : List Byte) (ragged : Bool) (span : FrameSpan) : State :=
  match Frame.read s.station.address bytes ragged with
  | some f =>
      let s := if span == .overSlotEnd then s else s.startPassed
      if s.waits span then { s with line.atStart := some (.underWay bytes) } else s.takeFrame f span
  | none => s

/-- RECEIVE_FRAME (R14). -/
def execReceiveFrame (bytes : List Byte) (ragged : Bool) (span : FrameSpan) (s : State) :
    Host.Outcome State Fault Refusal :=
  .next (s.receive bytes ragged span)

end Sys2Proof.Machine
end

