-- ==== Sys2Proof/Machine/Counts.lean ====
section
/-!
DEFINITION. The marks of the cycle timer and the counts they step: SLOT_END and CYCLE_START step every count that does
not run out, and leave a count that does as due; the rows for its end take that last step (log entry 1).
-/

namespace Sys2Proof.Machine

/-! ### One step of each count, on its item as it stands -/

/-- A silent occurrence of a PEER_HELD entry (R48, R49). -/
def Entry.silentStep : Entry → Entry
  | .peerHeld x k => if k + 1 < 8 then .peerHeld x (k + 1) else .free
  | e => e

/-- The window of an OWN_YIELDING entry (R75). -/
def Entry.windowStep : Entry → Entry
  | .ownYielding b h r w => if 1 < w then .ownYielding b h r (w - 1) else .ownHeld b h r
  | e => e

/-- The expiry of a PEER_PENDING entry (R50). -/
def Entry.expiryStep : Entry → Entry
  | .peerPending x k => if 1 < k then .peerPending x (k - 1) else .free
  | e => e

/-- The bar of a BARRED entry (R51). -/
def Entry.barStep : Entry → Entry
  | .barred k => if 1 < k then .barred (k - 1) else .free
  | e => e

/-- The settle of an announced entry, where it does not run out (R67). -/
def Entry.settleDown : Entry → Entry
  | .ownClaiming b h (some k) => .ownClaiming b h (some (k - 1))
  | e => e

/-- The next step of the entry's settle wins it (R67). -/
def Entry.settles : Entry → Bool
  | .ownClaiming _ _ (some k) => k ≤ 1
  | _ => false

/-- One entry stepped by a function. -/
def State.stepEntry (s : State) (n : Nat) (f : Entry → Entry) : State := s.setEntry n (f (s.entry n))

/-- The settle at a cycle start (R67). -/
def State.settleStep (s : State) : State :=
  match s.sched.claim with
  | some ⟨k, .announced true⟩ => { s with sched.claim := some ⟨k, .announced false⟩ }
  | some ⟨_, .announced false⟩ =>
      if s.sched.slots.any Entry.settles then s.winClaim
      else { s with sched.slots := s.sched.slots.map Entry.settleDown }
  | _ => s

/-- The settle is about to be won. -/
def State.settleRunsOut (s : State) : Bool :=
  match s.sched.claim with
  | some ⟨_, .announced false⟩ => s.sched.slots.any Entry.settles
  | _ => false

/-- The listen count at a cycle start (R29), and at its end the home pick (R30). -/
def State.listenStep (s : State) : State :=
  if s.station.life == .listening then
    if s.station.restartMark then { s with station.listenCount := 2, station.restartMark := false }
    else if 1 < s.station.listenCount then { s with station.listenCount := s.station.listenCount - 1 }
    else State.homePick { s with station.listenCount := 0 }
  else s

/-- Listening is about to end. -/
def State.listenRunsOut (s : State) : Bool :=
  s.station.life == .listening && !s.station.restartMark && s.station.listenCount ≤ 1

/-- The home pick of a cycle start in WAITING (R31). -/
def State.waitingStep (s : State) : State := if s.station.life == .waiting then s.homePick else s

/-- The leave count at a cycle start (R36). -/
def State.leaveStep (s : State) : State :=
  if s.station.life == .leaving then
    if 1 < s.station.leaveCount then { s with station.leaveCount := s.station.leaveCount - 1 }
    else s.moveOffline .timeout
  else s

/-- The relearn hold at a cycle start (R25). -/
def State.relearnStep (s : State) : State := { s with timer.relearnHold := s.timer.relearnHold - 1 }

/-- A lane's busy hold at a cycle start (R111). -/
def State.busyStep (s : State) (l : Nat) : State :=
  s.setLane l { s.lane l with busyHold := (s.lane l).busyHold - 1 }

/-- The cycles since last heard of a peer at a cycle start, and its absence at 16 (R97, R98). -/
def State.peerStep (s : State) (p : Nat) : State :=
  let r := s.peer p
  if r.present && p != s.station.address then
    if r.silence + 1 < 16 then s.setPeer p { r with silence := r.silence + 1 }
    else ((s.setPeer p { r with present := false, silence := 16 }).post (.peerDown p)).absenceNotice p
  else s

/-- The position is SENT, not retransmit-eligible, and its deadline is this cycle number (R141). -/
def Position.reached (cycle : CycleNum) (p : Position) : Bool :=
  match p.phase with
  | .sent _ _ d el => !el && d == cycle
  | _ => false

/-- The position has used its retries (R141, R142). -/
def Position.spent (p : Position) : Bool :=
  match p.phase with
  | .sent _ r _ _ => 6 ≤ r
  | _ => false

/-- The position becomes retransmit-eligible (R141). -/
def Position.makeEligible (p : Position) : Position :=
  match p.phase with
  | .sent st r d _ => { p with phase := .sent st r d true }
  | _ => p

/-- The position with sequence `q` of lane `l` that reaches its deadline at this cycle number, with its place. -/
def State.dueAt (s : State) (l : Nat) (q : Seq) : Option Nat :=
  (s.lane l).positions.findIdx? fun p => p.reached s.timer.cycle && p.seq == some q

/-- The position at that place is at the retry limit: retries 6 while JOINED or LEAVING (R141, R142). -/
def State.atLimit (s : State) (l i : Nat) : Bool :=
  s.serves && ((s.lane l).positions.getD i ⟨[], none, .loading⟩).spent

/-- A deadline reached (R141), or the retry limit (R142). -/
def State.deadlineStep (s : State) (l : Nat) (q : Seq) : State :=
  match s.dueAt l q with
  | none => s
  | some i =>
      if s.atLimit l i then s.haltLane l .retry
      else
        let t := s.lane l
        s.setLane l { t with positions := t.positions.modify i Position.makeEligible }

/-! ### Counts that are due -/

/-- The deferred last step of a count, on its item as it stands (log entry 1). -/
def State.dueStep (s : State) (d : Due) : State :=
  match d with
  | .lapse n => s.stepEntry n Entry.silentStep
  | .yieldEnd n => s.stepEntry n Entry.windowStep
  | .pendingExpiry n => s.stepEntry n Entry.expiryStep
  | .barExpire n => s.stepEntry n Entry.barStep
  | .settle => s.settleStep
  | .listenEnd => s.listenStep
  | .waitingPick => s.waitingStep
  | .leaveTimeout => s.leaveStep
  | .absence p => s.peerStep p
  | .deadline l q => s.deadlineStep l q
  | .relearnHold => s.relearnStep
  | .busyHold l => s.busyStep l

/-- A count that is due takes its last step; one that is not changes nothing (log entry 2). -/
def State.takeDue (s : State) (d : Due) : State :=
  if s.timer.due.contains d then State.dueStep { s with timer.due := s.timer.due.erase d } d else s

/-- Every count still due takes its last step, in the order they stand, before the next mark (log entry 1). -/
def State.catchUp (s : State) : State := s.timer.due.foldl State.takeDue s

/-! ### SLOT_END -/

/-- The silence and window counts at the end of an occurrence (R48, R75): the entry stepped, or its count due. -/
def State.countSlot (s : State) (n : Nat) : State :=
  match s.entry n with
  | .peerHeld x k =>
      if s.line.heardData.contains x then s
      else if k + 1 < 8 then s.stepEntry n Entry.silentStep
      else { s with timer.due := s.timer.due ++ [.lapse n] }
  | .ownYielding _ _ _ w =>
      if s.line.sentInSlot || s.line.heardValid then s
      else if 1 < w then s.stepEntry n Entry.windowStep
      else { s with timer.due := s.timer.due ++ [.yieldEnd n] }
  | _ => s

/-- The line unit's reports of a slot end with it. -/
def LineUnit.newSlot (l : LineUnit) : LineUnit := { l with sentInSlot := false, heardData := [], heardValid := false }

/-- The end of slot S-1 is marked, and the cycle start is the next mark (R2). -/
def State.cycleEnds (s : State) : Bool := s.active && s.timer.phase == .ended

/-- The slot in progress ends: the counts of the occurrence, then the next slot begins, after slot S-1 with the cycle
start (R2, R48, R75). -/
def State.endSlot (s : State) : State :=
  let s := s.countSlot s.timer.position
  let last := !(s.timer.position + 1 < s.slotCount)
  { s with
    line := s.line.newSlot
    timer := { s.timer with
      lastSlot := some (s.timer.position, s.timer.cycle)
      position := if last then s.timer.position else s.timer.position + 1
      phase := if last then .ended else .starting } }

/-- The effect of a row on a station whose timer runs. -/
def State.ifActive (s : State) (f : State → State) : State := if s.active then f s else s

/-- SLOT_END (R2): its slot start has passed, and the counts still due take their last steps first. No slot ends between
the end of slot S-1 and the cycle start (log entries 1 and 11). -/
def State.slotEnd (s : State) : State :=
  if s.active && !s.cycleEnds then s.startPassed.ifActive fun s => s.catchUp.ifActive State.endSlot else s

/-! ### CYCLE_START -/

/-- The cycle number and slot position at a cycle start (R2, R3). -/
def State.beginCycle (s : State) : State :=
  { s with
    line := s.line.newSlot
    timer := { s.timer with
      lastSlot := some (s.timer.position, s.timer.cycle)
      position := 0
      cycle := s.timer.cycle + 1
      phase := .starting } }

/-- The expiry and bar of an entry that do not run out (R50, R51). -/
def Entry.cycleStep (e : Entry) : Entry :=
  match e with
  | .peerPending _ k => if 1 < k then e.expiryStep else e
  | .barred k => if 1 < k then e.barStep else e
  | _ => e

/-- The due step of an entry whose expiry or bar runs out. -/
def Entry.cycleDue (e : Entry) (n : Nat) : Option Due :=
  match e with
  | .peerPending _ k => if 1 < k then none else some (.pendingExpiry n)
  | .barred k => if 1 < k then none else some (.barExpire n)
  | _ => none

/-- The peer's cycles since last heard where they do not reach 16 (R97); `a` is the address. -/
def Peer.cycleStep (own a : Nat) (r : Peer) : Peer :=
  if r.present && a != own && r.silence + 1 < 16 then { r with silence := r.silence + 1 } else r

/-- The records from address `a` on, stepped. -/
def stepPeers (own : Nat) : Nat → List Peer → List Peer
  | _, [] => []
  | a, r :: rest => r.cycleStep own a :: stepPeers own (a + 1) rest

/-- What runs out at this cycle start, in the order in which `catchUp` takes it: holds and decays first, then the win,
deadlines and absences in ascending order (R97, R142), and last the endings and picks that read the rest. -/
def State.cycleDues (s : State) : List Due :=
  let slots := List.range s.sched.slots.length
  let lanes := [0, 1, 2, 3]
  (if s.timer.relearnHold = 1 then [.relearnHold] else [])
  ++ slots.filterMap (fun n => (s.entry n).cycleDue n)
  ++ (lanes.filter fun l => (s.lane l).busyHold = 1).map .busyHold
  ++ (if s.settleRunsOut then [.settle] else [])
  ++ lanes.flatMap (fun l =>
      ((s.lane l).positions.filter (Position.reached s.timer.cycle)).map fun p => .deadline l (p.seq.getD 0))
  ++ ((List.range 62).map (· + 1)).filterMap (fun a =>
      if (s.peer a).present && a != s.station.address && 16 ≤ (s.peer a).silence + 1 then some (.absence a) else none)
  ++ (if s.station.life == .leaving && s.station.leaveCount ≤ 1 then [.leaveTimeout] else [])
  ++ (if s.listenRunsOut then [.listenEnd] else [])
  ++ (if s.station.life == .waiting then [.waitingPick] else [])

/-- The counts of a cycle start that do not run out (R25, R29, R36, R50, R51, R67, R97, R111). -/
def State.cycleCounts (s : State) : State :=
  let s := { s with sched.slots := s.sched.slots.map Entry.cycleStep, peers := stepPeers s.station.address 1 s.peers }
  let s := if s.settleRunsOut then s else s.settleStep
  let s := if s.listenRunsOut then s else s.listenStep
  let s := if 1 < s.station.leaveCount then s.leaveStep else s
  let s := if 1 < s.timer.relearnHold then s.relearnStep else s
  s.mapLanes fun t => if 1 < t.busyHold then { t with busyHold := t.busyHold - 1 } else t

/-- CYCLE_START (R2, R3), at the end of slot S-1 alone: the cycle number increases and the per-cycle counts of every block
step; those that run out are due. -/
def State.cycleStart (s : State) : State :=
  if s.cycleEnds then
    s.catchUp.ifActive fun s =>
      let s := s.beginCycle
      { s.cycleCounts with timer := { s.cycleCounts.timer with due := s.cycleDues } }
  else s

/-! ### The rows -/

/-- The next peer in ascending address order whose absence is due (R97). -/
def State.nextAbsence (s : State) : Option Nat :=
  s.timer.due.findSome? fun d => match d with | .absence p => some p | _ => none

/-- The oldest deadline due of a lane. -/
def State.nextDeadline (s : State) (l : Nat) : Option Seq :=
  s.timer.due.findSome? fun d => match d with | .deadline k q => if k = l then some q else none | _ => none

/-- A deadline due of the lane, be it its next one or a later one, meets the retry limit and so halts the lane. -/
def State.limitDue (s : State) (l : Nat) : Bool :=
  s.serves && (s.lane l).ready && s.timer.due.any fun d => match d with
    | .deadline k q =>
        k == l && (s.lane l).positions.any fun p => p.reached s.timer.cycle && p.spent && p.seq == some q
    | _ => false

/-- PEER_ABSENCE: the absences of one cycle start are taken in ascending address order (R97). -/
def State.absenceNext (s : State) : State :=
  match s.nextAbsence with
  | some p => s.takeDue (.absence p)
  | none => s

/-- A deadline of a lane waits: it would halt the lane, and a lower lane halts at the same cycle start (R142). -/
def State.limitWaits (s : State) (l : Nat) (q : Seq) : Bool :=
  (s.lane l).ready && (s.dueAt l q).any (s.atLimit l) && (List.range l).any s.limitDue

/-- DEADLINE_REACHED for a lane: lanes halt at the retry limit of one cycle start in ascending order (R142). -/
def State.deadlineNext (s : State) (l : Nat) : State :=
  match s.nextDeadline l with
  | some q => if s.limitWaits l q then s else s.takeDue (.deadline l q)
  | none => s

/-- CYCLE_START. -/
def execCycleStart (s : State) : Host.Outcome State Fault Refusal := .next s.cycleStart

/-- SLOT_END. -/
def execSlotEnd (s : State) : Host.Outcome State Fault Refusal := .next s.slotEnd

/-- LAPSE (R49). -/
def execLapse (slot : Nat) (s : State) : Host.Outcome State Fault Refusal :=
  .next (s.ifActive (·.takeDue (.lapse slot)))

/-- YIELD_WINDOW_EXPIRE (R75). -/
def execYieldWindowExpire (slot : Nat) (s : State) : Host.Outcome State Fault Refusal :=
  .next (s.ifActive (·.takeDue (.yieldEnd slot)))

/-- PENDING_EXPIRY (R50). -/
def execPendingExpiry (slot : Nat) (s : State) : Host.Outcome State Fault Refusal :=
  .next (s.ifActive (·.takeDue (.pendingExpiry slot)))

/-- BAR_EXPIRE (R51). -/
def execBarExpire (slot : Nat) (s : State) : Host.Outcome State Fault Refusal :=
  .next (s.ifActive (·.takeDue (.barExpire slot)))

/-- SETTLE_EXPIRE (R67). -/
def execSettleExpire (s : State) : Host.Outcome State Fault Refusal := .next (s.ifActive (·.takeDue .settle))

/-- LISTEN_END (R29). -/
def execListenEnd (s : State) : Host.Outcome State Fault Refusal := .next (s.ifActive (·.takeDue .listenEnd))

/-- WAITING_HOME_PICK (R31). -/
def execWaitingHomePick (s : State) : Host.Outcome State Fault Refusal := .next (s.ifActive (·.takeDue .waitingPick))

/-- LEAVE_TIMEOUT (R36). -/
def execLeaveTimeout (s : State) : Host.Outcome State Fault Refusal := .next (s.ifActive (·.takeDue .leaveTimeout))

/-- PEER_ABSENCE (R97). -/
def execPeerAbsence (s : State) : Host.Outcome State Fault Refusal := .next (s.ifActive (·.absenceNext))

/-- DEADLINE_REACHED (R141). -/
def execDeadlineReached (lane : Nat) (s : State) : Host.Outcome State Fault Refusal :=
  .next (s.ifActive (·.deadlineNext lane))

/-- RELEARN_HOLD_EXPIRE (R25). -/
def execRelearnHoldExpire (s : State) : Host.Outcome State Fault Refusal := .next (s.ifActive (·.takeDue .relearnHold))

/-- BUSY_HOLD_EXPIRE (R111). -/
def execBusyHoldExpire (lane : Nat) (s : State) : Host.Outcome State Fault Refusal :=
  .next (s.ifActive (·.takeDue (.busyHold lane)))

end Sys2Proof.Machine
end

