-- ==== Sys2Proof/Decode.lean ====
section
/-!
DEFINITION. The host port's command decoder, from the whole bytes of one transaction to the command they make (R155,
R175), the writer of a command's bytes, and the opcode table's decoder: the table gives no row any bits, so no word
spells a command (log entry 19).
-/

namespace Sys2Proof

/-- Five argument bytes of CONFIGURE as a lane group; absent bytes read 00h (R175). -/
def LaneArgs.ofBytes (bytes : List Byte) : LaneArgs :=
  ⟨bytes.getD 0 0, bytes.getD 1 0, bytes.getD 2 0, bytes.getD 3 0, bytes.getD 4 0⟩

/-- The bytes of a lane group (R175). -/
def LaneArgs.bytes (a : LaneArgs) : List Byte := [a.destination, a.channel, a.maxPayload, a.share, a.confirm]

/-- The 23 argument bytes of CONFIGURE (R175). -/
def ConfigureArgs.ofBytes (bytes : List Byte) : ConfigureArgs :=
  ⟨bytes.getD 0 0, bytes.getD 1 0, .ofBytes (bytes.drop 2), .ofBytes (bytes.drop 7), .ofBytes (bytes.drop 12),
    .ofBytes (bytes.drop 17), bytes.getD 22 0⟩

/-- The argument bytes of a configuration in their order (R175). -/
def ConfigureArgs.bytes (a : ConfigureArgs) : List Byte :=
  [a.address, a.code] ++ a.lane0.bytes ++ a.lane1.bytes ++ a.lane2.bytes ++ a.lane3.bytes ++ [a.notify]

/-- The command that the bytes of a transaction make when chip select rises: bytes after the last argument byte are not
decoded, too few make COMMAND_DISCARD, and a code outside the table is answered UNKNOWN (R155, R175). -/
def decodeTransaction (bytes : List Byte) : Instr :=
  match bytes with
  | [] => .commandDiscard []
  | code :: args =>
    match code.toNat, args with
    | 0x01, args => if 23 ≤ args.length then .configure (.ofBytes args) else .commandDiscard bytes
    | 0x02, _ => .join
    | 0x03, _ => .leave
    | 0x10, lane :: n :: _ => .reserve lane n
    | 0x11, lane :: _ => .release lane
    | 0x20, lane :: count :: payload =>
        if 1 ≤ count.toNat && count.toNat ≤ 32 then
          if count.toNat ≤ payload.length then .append lane count (payload.take count.toNat) else .commandDiscard bytes
        else .append lane count []
    | 0x21, lane :: _ => .commit lane
    | 0x22, lane :: _ => .flush lane
    | 0x23, lane :: _ => .resume lane
    | 0x30, lane :: _ => .fetch lane
    | 0x40, _ => .readEvent
    | 0x41, _ => .readStatus
    | 0x42, slot :: _ => .readSlot slot
    | 0x43, address :: _ => .readPeer address
    | 0x7F, _ => .reset
    | c, _ =>
        if [0x10, 0x11, 0x20, 0x21, 0x22, 0x23, 0x30, 0x42, 0x43].contains c then .commandDiscard bytes
        else .unknownCommand code

/-- The bytes the host sends for a command (R175); the steps that are no transaction have none. -/
def Instr.transactionBytes : Instr → List Byte
  | .configure a => 0x01 :: a.bytes
  | .join => [0x02]
  | .leave => [0x03]
  | .reserve lane n => [0x10, lane, n]
  | .release lane => [0x11, lane]
  | .append lane count payload => 0x20 :: lane :: count :: payload
  | .commit lane => [0x21, lane]
  | .flush lane => [0x22, lane]
  | .resume lane => [0x23, lane]
  | .fetch lane => [0x30, lane]
  | .readEvent => [0x40]
  | .readStatus => [0x41]
  | .readSlot slot => [0x42, slot]
  | .readPeer address => [0x43, address]
  | .reset => [0x7F]
  | .unknownCommand code => [code]
  | .commandDiscard received => received
  | .resetAct | .fetchRemoval | .eventRemoval | .powerOn | .rstnFall | .rstnRise | .receiveFrame _ _ _
  | .scheduledSlotStart | .openSlotStart | .ownFrameEnd _ | .cycleStart | .slotEnd | .lapse _ | .yieldWindowExpire _
  | .pendingExpiry _ | .barExpire _ | .settleExpire | .listenEnd | .waitingHomePick | .leaveTimeout | .peerAbsence
  | .deadlineReached _ | .relearnHoldExpire | .busyHoldExpire _ | .supplySettled => []

/-- The command that a word of the opcode table's bits spells. The table gives none of its rows bits. -/
def decodeTableWord (_nbits _w : Nat) : Option Instr := none

end Sys2Proof
end

