-- ==== Sys2Proof/Machine/Flags.lean ====
section
/-!
DEFINITION. What the host reads: the level of INT (R166), the status codes (R157, R176) and the bytes of the event,
status, slot and peer records (R176).
-/

namespace Sys2Proof.Machine

/-- INT is low: the event queue holds a record, or a receive lane whose notify flag is set does (R152, R166). While the
station is held in reset INT is high (R169). -/
def State.intLow (s : State) : Bool :=
  !s.held && (!s.port.events.isEmpty || (s.rx.lanes.zip s.rx.notify).any fun (lane, notify) => notify && !lane.isEmpty)

/-- The status codes of R157. -/
inductive Status
  | ok | state | busy | arg | full | empty | limit | noSlots | unknown
deriving DecidableEq, Repr

/-- Their byte values (R176). -/
def Status.byte : Status → Byte
  | .ok => 1
  | .state => 2
  | .busy => 3
  | .arg => 4
  | .full => 5
  | .empty => 6
  | .limit => 7
  | .noSlots => 8
  | .unknown => 9

/-- A count, slot number, binding or argument that the record's case does not carry (R176). -/
def absentByte : Byte := 0xFF

/-- A count that may be absent. -/
def optByte (n : Option Nat) : Byte :=
  match n with
  | some n => byteOf n
  | none => absentByte

/-- The reason codes of LEFT (R176). -/
def LeftReason.code : LeftReason → Nat
  | .host => 1
  | .controlAbandoned => 2
  | .timeout => 3

/-- The reason codes of SLOT_LOST (R176). -/
def LossReason.code : LossReason → Nat
  | .yielded => 1
  | .abandoned => 2

/-- The reason codes of LANE_HALTED (R176). -/
def HaltReason.code : HaltReason → Nat
  | .retry => 1
  | .busyLimit => 2
  | .absent => 3

/-- The frame kind codes of CONTROL_ABANDONED, the kind values of R172 (R176). -/
def CtlKind.code : CtlKind → Nat
  | .claim => 2
  | .release => 3
  | .leave => 4

/-- The kind byte and the two argument places of an event (R163, R176). -/
def Event.code : Event → Nat × Option Nat × Option Nat
  | .joined slot => (0x01, some slot, none)
  | .waiting => (0x02, none, none)
  | .left r => (0x03, some r.code, none)
  | .reserveDone lane gained => (0x04, some lane, some gained)
  | .slotLost slot r => (0x05, some slot, some r.code)
  | .duplicateSuspect slot => (0x06, some slot, none)
  | .peerUp a => (0x07, some a, none)
  | .peerDown a => (0x08, some a, none)
  | .configMismatch a => (0x09, some a, none)
  | .referenceChanged r resync => (0x0A, some r, some (if resync then 1 else 0))
  | .laneHalted lane r => (0x0B, some lane, some r.code)
  | .packetConfirmed lane q => (0x0C, some lane, some q.toNat)
  | .rxDropped lane source => (0x0D, some lane, some source)
  | .controlAbandoned k => (0x0E, some k.code, none)
  | .lineFault => (0x0F, none, none)
  | .eventsLost n => (0x10, some n, none)

/-- The five bytes of an event record (R176). -/
def EventRecord.bytes (r : EventRecord) : List Byte :=
  let c := r.event.code
  [byteOf c.1] ++ wordBytes r.cycle ++ [optByte c.2.1, optByte c.2.2]

/-- The station state's value in the status record (R176). -/
def StationState.code : StationState → Nat
  | .unconfigured => 0
  | .offline => 1
  | .listening => 2
  | .waiting => 3
  | .joining => 4
  | .joined => 5
  | .leaving => 6
  | .fault => 7

/-- The lane code of the status record: DISABLED, READY, or HALTED with its reason (R109, R176). -/
def TxLane.code (t : TxLane) : Nat :=
  if t.enabled then
    match t.halt with
    | none => 0x01
    | some r => 0x10 + r.code
  else 0x00

/-- The 21 bytes of the status record (R162, R176). -/
def State.statusRecord (s : State) : List Byte :=
  [byteOf s.station.life.code, byteOf s.station.address, byteOf s.timer.reference] ++ wordBytes s.timer.cycle
  ++ [byteOf s.ownSlots, optByte s.homeSlot]
  ++ [0, 1, 2, 3].flatMap (fun l => [byteOf (s.lane l).code, byteOf (s.lane l).positions.length])
  ++ [0, 1, 2, 3].map (fun l => byteOf (s.rxLane l).length)
  ++ [byteOf s.port.events.length, byteOf s.port.lost]

/-- A binding in the slot record (R176). -/
def Binding.code : Binding → Nat
  | .lane l => l
  | .shared => 4

/-- The state byte and the fields after the owner, absent where the entry does not carry them: bar, expiry, silence,
binding, home flag, announced flag, settle, yield round, window (R41, R58, R176). -/
def Entry.fields : Entry → Nat × List (Option Nat)
  | .free => (0, List.replicate 9 none)
  | .barred k => (1, [some k, none, none, none, none, none, none, none, none])
  | .peerPending _ k => (2, [none, some k, none, none, none, none, none, none, none])
  | .peerHeld _ k => (3, [none, none, some k, none, none, none, none, none, none])
  | .ownClaiming b h settle =>
      (4, [none, none, none, some b.code, some h.toNat, some settle.isSome.toNat, settle, none, none])
  | .ownHeld b h r => (5, [none, none, none, some b.code, some h.toNat, none, none, some r, none])
  | .ownYielding b h r w => (6, [none, none, none, some b.code, some h.toNat, none, none, some r, some w])

/-- The owner byte: the peer, the own address, or 00h (R58, R176). -/
def Entry.ownerAt (e : Entry) (own : Nat) : Nat := if e.isOwn then own else e.peer?.getD 0

/-- The twelve bytes of the slot record (R58, R176). -/
def State.slotRecord (s : State) (n : Nat) : List Byte :=
  let e := s.entry n
  [byteOf n, byteOf e.fields.1, byteOf (e.ownerAt s.station.address)] ++ e.fields.2.map optByte

/-- The five bytes of the peer record (R104, R176). -/
def State.peerRecord (s : State) (a : Nat) : List Byte :=
  let r := s.peer a
  [byteOf a, flagByte (a == s.station.address), flagByte r.present, byteOf r.silence, flagByte r.mismatch]

/-- The bytes of a FETCH response after the status (R149, R176). -/
def RxRecord.bytes (r : RxRecord) : List Byte :=
  [byteOf r.source, flagByte r.broadcast] ++ wordBytes r.arrival ++ [byteOf r.payload.length] ++ r.payload

end Sys2Proof.Machine
end

