-- ==== Sys2Proof/Machine/Port.lean ====
section
/-!
DEFINITION. The transaction that carries every host command (R154 to R158), RESET and what it does at the rise of chip
select (R167, R168), the removals at the end of a response (R150, R164, R165), and the reset pin and supply (R169).
-/

namespace Sys2Proof.Machine

/-! ### Resets -/

/-- The RESET command acts (R168): every block takes the values of its RESET column. The transaction is ended. -/
def State.resetAct (s : State) : State :=
  let s := s.clearLink
  { s with
    line.own := none
    station.life := if s.station.code.isSome then .offline else .unconfigured
    tx := ⟨s.tx.lanes.map TxLane.resetLane, 3⟩
    port := ⟨[], 0, none⟩ }

/-- Every block at its power-on values, with this level of RSTN and this state of the supply (R169, R170). The model's
own count and the queue of commands are no state of the part. -/
def State.powerOnValues (s : State) (power : Power) : State :=
  { State.reset with power := power, freeReads := s.freeReads, pending := s.pending }

/-! ### Transactions -/

/-- What a taken command answers (R156): its status, the data that follow it, and the effect tied to its end. -/
structure Reply where
  status : Status
  data : List Byte := []
  ending : Ending := .none
deriving DecidableEq, Repr

/-- Chip select rises: the transaction ends, a RESET taken in it acts, and a removal not reached is not made (R150, R154,
R164, R168). -/
def State.endTransaction (s : State) : State :=
  match s.port.transaction with
  | some ⟨_, _, .reset⟩ => s.resetAct
  | _ => { s with port.transaction := none }

/-- The host command `c` taken in a transaction of its own, which begins after the one before it has ended (R154 to R156,
R158; log entry 9). While the station is held in reset the port takes no command (R169). -/
def State.take (s : State) (c : Instr) (f : State → State × Reply) : State :=
  if s.held then s
  else
    let r := f s.endTransaction
    { r.1 with
      port.transaction := some ⟨c.transactionBytes.length, r.2.status.byte :: r.2.data, r.2.ending⟩ }

/-- Byte `k` that the host clocks out on MISO in a transaction: 00h before the response and after it (R150, R156). -/
def Transaction.miso (t : Transaction) (k : Nat) : Byte :=
  if k < t.before then 0 else t.response.getD (k - t.before) 0

/-- Byte `k` of the transaction in progress on MISO; none while the port drives nothing on it, with chip select high or
the station held in reset (R154, R169). -/
def State.miso (s : State) (k : Nat) : Option Byte :=
  if s.held then none else s.port.transaction.map (·.miso k)

/-- A command refused with a status changes nothing (R157). -/
def State.refuse (s : State) (st : Status) : State × Reply := (s, ⟨st, [], .none⟩)

/-- UNKNOWN_COMMAND (R155): answered UNKNOWN with no effect, whatever the code. -/
def execUnknownCommand (code : Byte) (s : State) : Host.Outcome State Fault Refusal :=
  .next (s.take (.unknownCommand code) fun s => s.refuse .unknown)

/-- COMMAND_DISCARD (R155): no status, no effect; chip select has risen. -/
def execCommandDiscard (_received : List Byte) (s : State) : Host.Outcome State Fault Refusal :=
  .next (if s.held then s else s.endTransaction)

/-- RESET (R167): taken in every state with OK; it acts at the rise of chip select. -/
def execReset (s : State) : Host.Outcome State Fault Refusal :=
  .next (s.take .reset fun s => (s, ⟨.ok, [], .reset⟩))

/-- RESET_ACT (R168): chip select rises, and a RESET that was taken acts. Where none was, the transaction ends and that is
all (R154; log entry 24). -/
def execResetAct (s : State) : Host.Outcome State Fault Refusal :=
  .next (if s.held then s else s.endTransaction)

/-! ### Removals -/

/-- The response of the transaction in progress is complete: its end carries no further effect. -/
def State.finishResponse (s : State) : State :=
  { s with port.transaction := s.port.transaction.map fun t => { t with ending := .none } }

/-- FETCH_REMOVAL (R150, R151): the last payload byte of a FETCH response is complete and the head record leaves its
lane; a lane emptied meanwhile loses nothing. -/
def State.fetchRemoval (s : State) : State :=
  match s.port.transaction with
  | some ⟨_, _, .fetch l⟩ => State.finishResponse { s with rx.lanes := s.rx.lanes.modify l List.tail }
  | _ => s

/-- The head record leaves the event queue; from a full queue with lost records, EVENTS_LOST takes the tail (R164,
R165). -/
def State.removeEvent (s : State) : State :=
  let rest := s.port.events.tail
  if s.port.events.length = 16 && s.port.lost != 0 then
    { s with port.events := rest ++ [⟨.eventsLost s.port.lost, s.timer.cycle⟩], port.lost := 0 }
  else { s with port.events := rest }

/-- EVENT_REMOVAL (R164): the last byte of a READ_EVENT record is complete. -/
def State.eventRemoval (s : State) : State :=
  match s.port.transaction with
  | some ⟨_, _, .event⟩ => s.removeEvent.finishResponse
  | _ => s

/-- FETCH_REMOVAL. -/
def execFetchRemoval (s : State) : Host.Outcome State Fault Refusal := .next (if s.held then s else s.fetchRemoval)

/-- EVENT_REMOVAL. -/
def execEventRemoval (s : State) : Host.Outcome State Fault Refusal := .next (if s.held then s else s.eventRemoval)

/-! ### Reset pin and supply (R169) -/

/-- POWER_ON: every block at its power-on values, held in reset until the supply has settled. The level of the RSTN pin
is the outside's and stays (log entry 15). -/
def execPowerOn (s : State) : Host.Outcome State Fault Refusal :=
  .next (s.powerOnValues ⟨s.power.rstnLow, false⟩)

/-- SUPPLY_SETTLED: the station leaves reset, or stays in it while RSTN is low. -/
def execSupplySettled (s : State) : Host.Outcome State Fault Refusal :=
  .next { s with power.settled := true }

/-- RSTN_FALL: the transaction ends, the line unit stops and every block takes its power-on values. -/
def execRstnFall (s : State) : Host.Outcome State Fault Refusal :=
  .next (s.powerOnValues ⟨true, s.power.settled⟩)

/-- RSTN_RISE: the station is UNCONFIGURED and ready for CONFIGURE. -/
def execRstnRise (s : State) : Host.Outcome State Fault Refusal :=
  .next { s with power.rstnLow := false }

end Sys2Proof.Machine
end

