-- ==== Sys2Proof/Machine/LaneCommands.lean ====
section
/-!
DEFINITION. APPEND, COMMIT, FLUSH and RESUME (R113 to R117).
-/

namespace Sys2Proof.Machine

/-- The states in which APPEND and COMMIT are taken (R113). -/
def StationState.loads : StationState → Bool
  | .listening | .waiting | .joining | .joined => true
  | _ => false

/-- The three checks of R113, then the command's own act on the lane. -/
def State.onLane (s : State) (taken : Bool) (lane : Byte) (f : TxLane → Option TxLane × Status) : State × Reply :=
  if !taken then s.refuse .state
  else if !(lane.toNat ≤ 3) then s.refuse .arg
  else if !(s.lane lane.toNat).enabled then s.refuse .state
  else
    match f (s.lane lane.toNat) with
    | (some t, st) => (s.setLane lane.toNat t, ⟨st, [], .none⟩)
    | (none, st) => s.refuse st

/-- The largest packet the lane takes (R107). -/
def TxLane.maxPayload (t : TxLane) : Nat := (t.config.map (·.maxPayload)).getD 0

/-- A position with this payload: LOADING, or COMMITTED at exactly the max payload (R114, R115). -/
def TxLane.loadedPosition (t : TxLane) (bytes : List Byte) : Position :=
  ⟨bytes, none, if bytes.length = t.maxPayload then .committed else .loading⟩

/-- The LOADING position of the lane, if it holds one; it is the newest (R112). -/
def TxLane.loading (t : TxLane) : Option Position :=
  match t.positions.getLast? with
  | some p => if p.phase == .loading then some p else none
  | none => none

/-- APPEND on a lane (R114). -/
def TxLane.append (t : TxLane) (bytes : List Byte) : Option TxLane × Status :=
  match t.loading with
  | some p =>
      if p.payload.length + bytes.length ≤ t.maxPayload then
        (some { t with positions := t.positions.dropLast ++ [t.loadedPosition (p.payload ++ bytes)] }, .ok)
      else (none, .arg)
  | none =>
      if t.positions.length < t.depth then
        if bytes.length ≤ t.maxPayload then (some { t with positions := t.positions ++ [t.loadedPosition bytes] }, .ok)
        else (none, .arg)
      else (none, .full)

/-- COMMIT on a lane (R115). -/
def TxLane.commit (t : TxLane) : Option TxLane × Status :=
  match t.loading with
  | some p => (some { t with positions := t.positions.dropLast ++ [{ p with phase := .committed }] }, .ok)
  | none => (none, .empty)

/-- FLUSH on a lane (R116). -/
def TxLane.flush (t : TxLane) : TxLane :=
  { t with halt := none, positions := [], armed := true, busyHold := 0, busyCount := 0 }

/-- RESUME on a lane (R117). -/
def TxLane.resume (t : TxLane) : Option TxLane × Status :=
  if t.halt.isSome then
    (some { t with
      halt := none, positions := t.positions.map Position.unsend, armed := true, busyHold := 0, busyCount := 0 }, .ok)
  else (none, .state)

/-- APPEND: a count of 0 or above 32 is refused with ARG once the checks of R113 have passed (R114). A term whose payload
is not of its count is no command of the port and is answered the same way (log entry 18). -/
def execAppend (lane count : Byte) (payload : List Byte) (s : State) : Host.Outcome State Fault Refusal :=
  .next (s.take (.append lane count payload) fun s => s.onLane s.station.life.loads lane fun t =>
    if 1 ≤ count.toNat && count.toNat ≤ 32 && payload.length == count.toNat then t.append payload else (none, .arg))

/-- COMMIT. -/
def execCommit (lane : Byte) (s : State) : Host.Outcome State Fault Refusal :=
  .next (s.take (.commit lane) fun s => s.onLane s.station.life.loads lane TxLane.commit)

/-- FLUSH. -/
def execFlush (lane : Byte) (s : State) : Host.Outcome State Fault Refusal :=
  .next (s.take (.flush lane) fun s => s.onLane s.station.life.onLink lane fun t => (some t.flush, .ok))

/-- RESUME. -/
def execResume (lane : Byte) (s : State) : Host.Outcome State Fault Refusal :=
  .next (s.take (.resume lane) fun s => s.onLane s.station.life.onLink lane TxLane.resume)

end Sys2Proof.Machine
end

