-- ==== Sys2Proof/Machine/Lifecycle.lean ====
section
/-!
DEFINITION. CONFIGURE (R19, R107, R108, R159, R160), JOIN (R27) and LEAVE (R34, R35).
-/

namespace Sys2Proof

/-! ### CONFIGURE -/

/-- The lane is enabled: destination other than 0 (R107). -/
def LaneArgs.enabled (a : LaneArgs) : Bool := a.destination != 0

/-- The four lane groups in order (R175). -/
def ConfigureArgs.lanes (a : ConfigureArgs) : List LaneArgs := [a.lane0, a.lane1, a.lane2, a.lane3]

/-- The fields of an enabled lane are in range, and its share holds one packet (R108; R159 checks 4 and 5). -/
def LaneArgs.fits (a : LaneArgs) : Bool :=
  a.destination.toNat ≤ 63 && a.channel.toNat ≤ 3
  && [8, 16, 32].contains a.maxPayload.toNat && [0, 32, 64, 128].contains a.share.toNat
  && a.maxPayload.toNat ≤ a.share.toNat

/-- The lane is an enabled unicast lane. -/
def LaneArgs.unicast (a : LaneArgs) : Bool := a.enabled && a.destination != 63

/-- The share that counts towards the pool; 0 for a disabled lane (R107). -/
def LaneArgs.pool (a : LaneArgs) : Nat := if a.enabled then a.share.toNat else 0

/-- No two unicast lanes have the same destination and channel (R108). -/
def LaneArgs.distinctStreams : List LaneArgs → Bool
  | [] => true
  | a :: rest =>
      (!a.unicast || rest.all fun b => !(b.unicast && b.destination == a.destination && b.channel == a.channel))
      && LaneArgs.distinctStreams rest

/-- Checks 2 to 8 of R159. -/
def ConfigureArgs.consistent (a : ConfigureArgs) : Bool :=
  1 ≤ a.address.toNat && a.address.toNat ≤ 62
  && (Machine.CycleCode.ofNat? a.code.toNat).isSome
  && a.lanes.all (fun l => !l.enabled || l.fits)
  && a.lanes.all (fun l => !(l.unicast && l.destination == a.address))
  && (a.lanes.map LaneArgs.pool).sum ≤ 256
  && LaneArgs.distinctStreams a.lanes

/-- The configuration a lane group gives: none for a disabled lane, whose other fields are not kept (R107). -/
def LaneArgs.config (a : LaneArgs) : Option Machine.LaneConfig :=
  if a.enabled then
    some ⟨a.destination.toNat, a.channel.toNat, a.maxPayload.toNat, a.share.toNat, a.confirm.getLsbD 0⟩
  else none

end Sys2Proof

namespace Sys2Proof.Machine

/-- A lane as an accepted CONFIGURE leaves it: next sequence kept (R108). -/
def TxLane.configured (t : TxLane) (a : LaneArgs) : TxLane := ⟨a.config, none, [], t.nextSeq, false, 0, 0⟩

/-- The effects of an accepted CONFIGURE (R19, R160). -/
def State.install (s : State) (a : ConfigureArgs) : State :=
  let code := CycleCode.ofNat? a.code.toNat
  { s with
    station := { s.station with life := .offline, address := a.address.toNat, code := code }
    timer := { s.timer with position := 0, cycle := 0, reference := a.address.toNat }
    sched := ⟨List.replicate (match code with | some c => c.scheduled | none => 0) .free, none⟩
    tx := ⟨List.zipWith TxLane.configured s.tx.lanes a.lanes, 3⟩
    rx := { s.rx with notify := [0, 1, 2, 3].map a.notify.getLsbD } }

/-- CONFIGURE. -/
def State.configure (s : State) (a : ConfigureArgs) : State × Reply :=
  if s.station.life == .unconfigured || s.station.life == .offline then
    if a.consistent then (s.install a, ⟨.ok, [], .none⟩) else s.refuse .arg
  else s.refuse .state

/-! ### JOIN and LEAVE -/

/-- JOIN (R20, R27): OFFLINE to LISTENING with the timer started at slot 0 of cycle 0 and the generator seeded (R84). -/
def State.join (s : State) : State × Reply :=
  if s.station.life == .offline then
    ({ s with
        station := { s.station with life := .listening, listenCount := 2, restartMark := false, leaveCount := 0 }
        timer := stoppedTimer s.station.address
        line := ⟨s.line.own, 0, false, [], false, none⟩
        sender.generator := s.station.address }, ⟨.ok, [], .none⟩)
  else s.refuse .state

/-- A JOINED station becomes LEAVING (R35, R80, R90). -/
def State.beginLeaving (s : State) : State :=
  State.endClaim (State.replaceQueue { s with station.life := .leaving, station.leaveCount := 8 })

/-- LEAVE (R34). -/
def State.leave (s : State) : State × Reply :=
  match s.station.life with
  | .listening | .waiting | .joining => (s.moveOffline .host, ⟨.ok, [], .none⟩)
  | .joined => (s.beginLeaving, ⟨.ok, [], .none⟩)
  | .unconfigured | .offline | .leaving | .fault => s.refuse .state

/-- CONFIGURE. -/
def execConfigure (args : ConfigureArgs) (s : State) : Host.Outcome State Fault Refusal :=
  .next (s.take (.configure args) fun s => s.configure args)

/-- JOIN. -/
def execJoin (s : State) : Host.Outcome State Fault Refusal := .next (s.take .join State.join)

/-- LEAVE. -/
def execLeave (s : State) : Host.Outcome State Fault Refusal := .next (s.take .leave State.leave)

end Sys2Proof.Machine
end

