-- ==== Sys2Proof/Machine/ReadCommands.lean ====
section
/-!
DEFINITION. FETCH (R149), READ_EVENT (R164), READ_STATUS (R162), READ_SLOT (R58) and READ_PEER (R104).
-/

namespace Sys2Proof.Machine

/-- FETCH (R149): the head record of a receive lane; its removal is tied to the end of the response. -/
def State.fetch (s : State) (lane : Byte) : State × Reply :=
  if s.station.life == .unconfigured then s.refuse .state
  else if !(lane.toNat ≤ 3) then s.refuse .arg
  else
    match s.rxLane lane.toNat with
    | r :: _ => (s, ⟨.ok, r.bytes, .fetch lane.toNat⟩)
    | [] => s.refuse .empty

/-- READ_EVENT (R164): the head event record; its removal is tied to the end of the response. -/
def State.readEvent (s : State) : State × Reply :=
  match s.port.events with
  | r :: _ => (s, ⟨.ok, r.bytes, .event⟩)
  | [] => s.refuse .empty

/-- READ_STATUS (R162). -/
def State.readStatus (s : State) : State × Reply := (s, ⟨.ok, s.statusRecord, .none⟩)

/-- READ_SLOT (R58). -/
def State.readSlot (s : State) (slot : Byte) : State × Reply :=
  if s.station.life == .unconfigured then s.refuse .state
  else if slot.toNat < s.scheduled then (s, ⟨.ok, s.slotRecord slot.toNat, .none⟩)
  else s.refuse .arg

/-- READ_PEER (R104). -/
def State.readPeer (s : State) (address : Byte) : State × Reply :=
  if s.station.life == .unconfigured then s.refuse .state
  else if 1 ≤ address.toNat && address.toNat ≤ 62 then (s, ⟨.ok, s.peerRecord address.toNat, .none⟩)
  else s.refuse .arg

/-- FETCH. -/
def execFetch (lane : Byte) (s : State) : Host.Outcome State Fault Refusal :=
  .next (s.take (.fetch lane) fun s => s.fetch lane)

/-- READ_EVENT. -/
def execReadEvent (s : State) : Host.Outcome State Fault Refusal := .next (s.take .readEvent State.readEvent)

/-- READ_STATUS. -/
def execReadStatus (s : State) : Host.Outcome State Fault Refusal := .next (s.take .readStatus State.readStatus)

/-- READ_SLOT. -/
def execReadSlot (slot : Byte) (s : State) : Host.Outcome State Fault Refusal :=
  .next (s.take (.readSlot slot) fun s => s.readSlot slot)

/-- READ_PEER. -/
def execReadPeer (address : Byte) (s : State) : Host.Outcome State Fault Refusal :=
  .next (s.take (.readPeer address) fun s => s.readPeer address)

end Sys2Proof.Machine
end

