-- ==== Sys2Proof/Machine/Service.lean ====
section
/-!
DEFINITION. The station's own frames: the slot server (R119 to R123, R134, R140), the open-slot sender (R85 to R87) and
the readback result at the end of an own frame (R16, R18, R66, R71, R74, R77).
-/

namespace Sys2Proof.Machine

/-! ### Sending -/

/-- The header of an own frame from the state at slot start (R5, R15). Frames go out only with a cycle code set. -/
def State.ownHeader (s : State) : Header :=
  ⟨s.station.code.getD .c16, s.station.address, s.timer.position, s.timer.cycle, s.timer.reference⟩

/-- An own transmission begins: the frame is on the line, its readback CLEAN (R1, R15, R16). -/
def State.beginFrame (s : State) (source : FrameSource) (body : FrameBody) : State :=
  { s with line := { s.line with
      own := some ⟨source, Frame.bytes ⟨s.ownHeader, body⟩, .clean, false⟩
      sentInSlot := true } }

/-! ### Slot service -/

/-- The position is SENT and retransmit-eligible (R112). -/
def Position.isEligible (p : Position) : Bool :=
  match p.phase with
  | .sent _ _ _ el => el
  | _ => false

/-- The position is COMMITTED. -/
def Position.isCommitted (p : Position) : Bool := p.phase == .committed

/-- The position that a served lane sends: the oldest retransmit-eligible one, otherwise the oldest COMMITTED (R121). -/
def TxLane.pick (t : TxLane) : Option Nat :=
  match t.positions.findIdx? Position.isEligible with
  | some i => some i
  | none => t.positions.findIdx? Position.isCommitted

/-- A lane is eligible at an own slot (R121). -/
def State.eligible (s : State) (l : Nat) : Bool :=
  let t := s.lane l
  t.ready && t.busyHold == 0 && t.pick.isSome &&
  match t.config with
  | some c => c.destination == 63 || s.isPresentPeer c.destination
  | none => false

/-- The packet of a lane at position `i`, as it goes out in the cycle, with the lane afterwards: start flag and
disarming (R119), sequence (R120), position or its removal (R123), retries and deadline (R140). -/
def TxLane.send (t : TxLane) (c : LaneConfig) (i : Nat) (p : Position) (cycle : CycleNum) : Packet × TxLane :=
  let sentBefore := match p.phase with
    | .sent st r _ _ => some (st, r)
    | _ => none
  let start := t.armed || (sentBefore.map (·.1)).getD false
  let retries := match sentBefore with
    | some (_, r) => r + 1
    | none => 0
  let seq := p.seq.getD t.nextSeq
  let after : Position := { p with seq := some seq, phase := .sent start retries (cycle + 4) false }
  (⟨c.destination, c.channel, seq, start, p.payload⟩,
    { t with
      positions := if c.destination == 63 then t.positions.eraseIdx i else t.positions.set i after
      nextSeq := if p.seq.isSome then t.nextSeq else t.nextSeq + 1
      armed := false })

/-- The ack list leaves the delivery unit and the DATA frame of the slot goes onto the line (R123, R134). -/
def State.sendData (s : State) (packet : Option Packet) : State :=
  let acks := s.delivery.owed.take 3
  State.beginFrame { s with delivery.owed := s.delivery.owed.drop 3 } (.data s.timer.position) (.data acks packet)

/-- A packet of lane `l` goes out in the slot in progress (R123). -/
def State.serveLane (s : State) (l : Nat) : State :=
  let t := s.lane l
  match t.config, t.pick with
  | some c, some i =>
      match t.positions[i]? with
      | some p =>
          let r := t.send c i p s.timer.cycle
          (s.setLane l r.2).sendData (some r.1)
      | none => s
  | _, _ => s

/-- The shared order: from the lane after the one last served at a shared slot, round the four lanes (R122). -/
def State.sharedOrder (s : State) : List Nat := [1, 2, 3, 4].map fun k => (s.tx.lastShared + k) % 4

/-- A slot served in the shared order: the first eligible lane, recorded as last served, or a fill frame (R122). -/
def State.serveShared (s : State) : State :=
  match s.sharedOrder.find? s.eligible with
  | some l => State.serveLane { s with tx.lastShared := l } l
  | none => s.sendData none

/-- The slot server at the start of an OWN_HELD slot with this binding (R122). -/
def State.serveSlot (s : State) (b : Binding) : State :=
  if s.station.life == .leaving then s.sendData none
  else
    match b with
    | .lane l => if s.eligible l then s.serveLane l else s.serveShared
    | .shared => s.serveShared

/-- The start of a slot is being marked: the timer runs, the start is not marked yet and no own frame is on the line
(R15; log entry 2). -/
def State.atSlotStart (s : State) : Bool := s.active && s.timer.phase == .starting && s.line.own.isNone

/-- The slot server's offer in the slot in progress, which it holds (R15, R122). -/
def State.offerData (s : State) : State :=
  match s.entry s.timer.position with
  | .ownHeld b _ _ => if s.serves then s.serveSlot b else s
  | _ => s

/-- SCHEDULED_SLOT_START (R122): the slot server offers a frame in an OWN_HELD slot while JOINED or LEAVING. -/
def State.scheduledStart (s : State) : State :=
  if s.atSlotStart && s.timer.position < s.scheduled then s.startWith State.offerData else s

/-! ### Open slots -/

/-- What a control frame carries after the header (R8, R9). -/
def CtlFrame.body (f : CtlFrame) : FrameBody :=
  match f.kind with
  | .claim => .claim f.slots
  | .release => .release f.slots
  | .leave => .leave

/-- The open-slot sender's turn (R85): a relearn hold stops a CLAIM at the head; otherwise backoff 0 sends the head and a
backoff above 0 counts down. -/
def State.offerControl (s : State) : State :=
  match s.sendsControl, s.sender.queue, s.sender.attempt with
  | true, f :: _, some a =>
      if f.kind == .claim && s.timer.relearnHold != 0 then s
      else if a.backoff == 0 then s.beginFrame (.control f false) f.body
      else { s with sender.attempt := some { a with backoff := a.backoff - 1 } }
  | _, _, _ => s

/-- OPEN_SLOT_START (R85). -/
def State.openStart (s : State) : State :=
  if s.atSlotStart && s.scheduled ≤ s.timer.position then s.startWith State.offerControl else s

/-! ### The end of an own frame -/

/-- The readback result of a DATA frame reaches the entry of its slot as it stands (R73, R74, R77). -/
def State.dataResult (s : State) (n : Nat) (r : Readback) : State :=
  match s.entry n with
  | .ownHeld b h round =>
      match r with
      | .clean => s.setEntry n (.ownHeld b h 0)
      | .failed =>
          if round + 1 < 3 then
            let w := if round = 0 then 1 + s.station.address % 8 else 1 + s.station.address / 8
            s.setEntry n (.ownYielding b h (round + 1) w)
          else
            let s := (s.setEntry n (.barred 16)).postAll [.slotLost n .abandoned, .duplicateSuspect n]
            if h then s.homeLost else s
  | _ => s

/-- A CLAIM that went out clean is announced: the listed slots still OWN_CLAIMING of the claim carry settle 4, and the
first-start mark is set (R66). -/
def State.announce (s : State) (slots : List Nat) : State :=
  match s.sched.claim with
  | some ⟨kind, .unsent⟩ =>
      let s := slots.foldl (fun s n =>
        match s.entry n with
        | .ownClaiming b h _ => s.setEntry n (.ownClaiming b h (some 4))
        | _ => s) s
      { s with sched.claim := some ⟨kind, .announced true⟩ }
  | _ => s

/-- The head went out clean: it leaves the queue and its purpose is complete (R85). -/
def State.controlClean (s : State) (f : CtlFrame) : State :=
  let s := s.dropHead
  match f.kind with
  | .claim => s.announce f.slots
  | .release => s
  | .leave => s.moveOffline .host

/-- The window of the backoff draw after this many failed attempts (R86). -/
def retryWindow (attempts : Nat) : Nat := if attempts = 1 then 4 else if attempts = 2 then 8 else 16

/-- The claim engine on an abandoned CLAIM: the claimed entries become FREE and the claim completes with 0; a home claim
is followed at once by a new pick (R71, R87). -/
def State.claimAbandoned (s : State) : State :=
  match s.sched.claim with
  | some c => if c.kind == .home then s.endClaim.homePick else s.endClaim
  | none => s

/-- The head failed: a further attempt with a wider window and a new draw (R86), or abandonment at the sixth (R87). -/
def State.controlFailed (s : State) (f : CtlFrame) : State :=
  match s.sender.attempt with
  | some a =>
      if a.attempts + 1 < 6 then
        let w := retryWindow (a.attempts + 1)
        { s with
          sender.attempt := some ⟨a.attempts + 1, w, s.sender.generator % w⟩
          sender.generator := s.nextGenerator }
      else
        let s := s.dropHead.post (.controlAbandoned f.kind)
        match f.kind with
        | .claim => s.claimAbandoned
        | .release => s
        | .leave => s.moveOffline .controlAbandoned
  | none => s

/-- The result reported to the block that supplied the frame; a replaced control frame finds no frame in the queue
(R16, R90). -/
def State.reportResult (s : State) (source : FrameSource) (r : Readback) : State :=
  match source, r with
  | .data n, r => s.dataResult n r
  | .control _ true, _ => s
  | .control f false, .clean => s.controlClean f
  | .control f false, .failed => s.controlFailed f

/-- OWN_FRAME_END (R16, R18): the frame leaves the line. A discarded result changes nothing (R15). A clean one clears
the line-fault count, a failed one increases it, and the eighth in a row enters FAULT unreported. -/
def State.frameEnd (s : State) (differed : Bool) : State :=
  match s.line.own with
  | none => s
  | some f =>
      let s := { s with line.own := none }
      if f.discarded then s
      else
        match (if differed then Readback.failed else f.readback) with
        | .clean => State.reportResult { s with line.faultCount := 0 } f.source .clean
        | .failed =>
            if s.line.faultCount < 7 then
              State.reportResult { s with line.faultCount := s.line.faultCount + 1 } f.source .failed
            else s.enterFault

/-- SCHEDULED_SLOT_START. -/
def execScheduledSlotStart (s : State) : Host.Outcome State Fault Refusal := .next s.scheduledStart

/-- OPEN_SLOT_START. -/
def execOpenSlotStart (s : State) : Host.Outcome State Fault Refusal := .next s.openStart

/-- OWN_FRAME_END. -/
def execOwnFrameEnd (differed : Bool) (s : State) : Host.Outcome State Fault Refusal := .next (s.frameEnd differed)

end Sys2Proof.Machine
end

