-- ==== Sys2Proof/Machine/SlotCommands.lean ====
section
/-!
DEFINITION. RESERVE (R61, R62) and RELEASE (R72).
-/

namespace Sys2Proof.Machine

/-- The claim of an accepted RESERVE (R62): the n lowest FREE entries become OWN_CLAIMING and their CLAIM is queued. -/
def State.claimSlots (s : State) (lane n : Nat) : State :=
  let slots := (s.slotsWhere (· == .free)).take n
  let s := slots.foldl (fun s k => s.setEntry k (.ownClaiming (.lane lane) false none)) s
  State.appendControl { s with sched.claim := some ⟨.reservation lane, .unsent⟩ } ⟨.claim, slots⟩

/-- RESERVE (R61): the first check that fails decides. -/
def State.reserve (s : State) (lane n : Byte) : State × Reply :=
  if s.station.life != .joined then s.refuse .state
  else if !(lane.toNat ≤ 3 && (s.lane lane.toNat).enabled) then s.refuse .arg
  else if !(1 ≤ n.toNat && n.toNat ≤ 4) then s.refuse .arg
  else if !(s.sched.claim.isNone && s.timer.relearnHold == 0 && s.sender.queue.length < 4) then s.refuse .busy
  else if 8 < s.ownSlots + n.toNat then s.refuse .limit
  else if (s.slotsWhere (· == .free)).length < n.toNat then s.refuse .noSlots
  else (s.claimSlots lane.toNat n.toNat, ⟨.ok, [], .none⟩)

/-- The entry is bound to the lane (R60). -/
def Entry.boundTo (lane : Nat) (e : Entry) : Bool := e.binding? == some (.lane lane)

/-- The entry is one that a RELEASE of the lane frees: OWN_HELD or OWN_YIELDING, bound to it, not home (R72). -/
def Entry.releasable (lane : Nat) (e : Entry) : Bool := e.boundTo lane && !e.isClaiming && !e.isHome

/-- A home entry bound to the lane becomes SHARED in its state (R72). -/
def Entry.share (lane : Nat) (e : Entry) : Entry :=
  match e with
  | .ownHeld b true r => if b == .lane lane then .ownHeld .shared true r else e
  | .ownYielding b true r w => if b == .lane lane then .ownYielding .shared true r w else e
  | _ => e

/-- The effect of an accepted RELEASE (R72, R89). -/
def State.releaseLane (s : State) (lane : Nat) : State :=
  let freed := s.slotsWhere (Entry.releasable lane)
  let s := s.freeEntries (Entry.releasable lane)
  let s := { s with sched.slots := s.sched.slots.map (Entry.share lane) }
  if freed.isEmpty then s else s.placeRelease freed

/-- RELEASE (R72). -/
def State.release (s : State) (lane : Byte) : State × Reply :=
  if s.station.life != .joined then s.refuse .state
  else if !(lane.toNat ≤ 3) then s.refuse .arg
  else if s.sched.slots.any (fun e => e.boundTo lane.toNat && e.isClaiming) then s.refuse .busy
  else (s.releaseLane lane.toNat, ⟨.ok, [], .none⟩)

/-- RESERVE. -/
def execReserve (lane n : Byte) (s : State) : Host.Outcome State Fault Refusal :=
  .next (s.take (.reserve lane n) fun s => s.reserve lane n)

/-- RELEASE. -/
def execRelease (lane : Byte) (s : State) : Host.Outcome State Fault Refusal :=
  .next (s.take (.release lane) fun s => s.release lane)

end Sys2Proof.Machine
end

