-- ==== Sys2Proof/Machine/Dispatch.lean ====
section
/-!
DEFINITION. One arm for each row of the opcode table, in the table's order.
-/

namespace Sys2Proof.Machine

/-- The effect of a command on everything but the queue. -/
def exec (i : Instr) (s : State) : Host.Outcome State Fault Refusal :=
  match i with
  | .configure args => Sys2Proof.Machine.execConfigure args s
  | .join => Sys2Proof.Machine.execJoin s
  | .leave => Sys2Proof.Machine.execLeave s
  | .reserve lane n => Sys2Proof.Machine.execReserve lane n s
  | .release lane => Sys2Proof.Machine.execRelease lane s
  | .append lane count payload => Sys2Proof.Machine.execAppend lane count payload s
  | .commit lane => Sys2Proof.Machine.execCommit lane s
  | .flush lane => Sys2Proof.Machine.execFlush lane s
  | .resume lane => Sys2Proof.Machine.execResume lane s
  | .fetch lane => Sys2Proof.Machine.execFetch lane s
  | .readEvent => Sys2Proof.Machine.execReadEvent s
  | .readStatus => Sys2Proof.Machine.execReadStatus s
  | .readSlot slot => Sys2Proof.Machine.execReadSlot slot s
  | .readPeer address => Sys2Proof.Machine.execReadPeer address s
  | .reset => Sys2Proof.Machine.execReset s
  | .unknownCommand code => Sys2Proof.Machine.execUnknownCommand code s
  | .commandDiscard received => Sys2Proof.Machine.execCommandDiscard received s
  | .resetAct => Sys2Proof.Machine.execResetAct s
  | .fetchRemoval => Sys2Proof.Machine.execFetchRemoval s
  | .eventRemoval => Sys2Proof.Machine.execEventRemoval s
  | .powerOn => Sys2Proof.Machine.execPowerOn s
  | .rstnFall => Sys2Proof.Machine.execRstnFall s
  | .rstnRise => Sys2Proof.Machine.execRstnRise s
  | .receiveFrame bytes ragged span => Sys2Proof.Machine.execReceiveFrame bytes ragged span s
  | .scheduledSlotStart => Sys2Proof.Machine.execScheduledSlotStart s
  | .openSlotStart => Sys2Proof.Machine.execOpenSlotStart s
  | .ownFrameEnd differed => Sys2Proof.Machine.execOwnFrameEnd differed s
  | .cycleStart => Sys2Proof.Machine.execCycleStart s
  | .slotEnd => Sys2Proof.Machine.execSlotEnd s
  | .lapse slot => Sys2Proof.Machine.execLapse slot s
  | .yieldWindowExpire slot => Sys2Proof.Machine.execYieldWindowExpire slot s
  | .pendingExpiry slot => Sys2Proof.Machine.execPendingExpiry slot s
  | .barExpire slot => Sys2Proof.Machine.execBarExpire slot s
  | .settleExpire => Sys2Proof.Machine.execSettleExpire s
  | .listenEnd => Sys2Proof.Machine.execListenEnd s
  | .waitingHomePick => Sys2Proof.Machine.execWaitingHomePick s
  | .leaveTimeout => Sys2Proof.Machine.execLeaveTimeout s
  | .peerAbsence => Sys2Proof.Machine.execPeerAbsence s
  | .deadlineReached lane => Sys2Proof.Machine.execDeadlineReached lane s
  | .relearnHoldExpire => Sys2Proof.Machine.execRelearnHoldExpire s
  | .busyHoldExpire lane => Sys2Proof.Machine.execBusyHoldExpire lane s
  | .supplySettled => Sys2Proof.Machine.execSupplySettled s

end Sys2Proof.Machine
end

