-- ==== Sys2Proof/WellFormed.lean ====
section
/-!
DEFINITION. Which command terms are commands the part can meet: the checks on operands that the types leave open.
-/

namespace Sys2Proof

/-- A transaction of its own carries the command: the decoder reads the command's bytes back as it (R155, R175). An
APPEND's payload is of its count, or empty for a count of 0 or above 32. An UNKNOWN_COMMAND's code names no command. A
discarded command's bytes are too few for the command they open. A slot number names a scheduled slot of some cycle code
(at most 62), and a lane number is 0 to 3. -/
def Instr.wf : Instr → Bool
  | .append _ count payload =>
      if 1 ≤ count.toNat && count.toNat ≤ 32 then payload.length == count.toNat else payload.isEmpty
  | .unknownCommand code => decodeTransaction [code] == .unknownCommand code
  | .commandDiscard received => decodeTransaction received == .commandDiscard received
  | .lapse slot | .yieldWindowExpire slot | .pendingExpiry slot | .barExpire slot => slot < 62
  | .deadlineReached lane | .busyHoldExpire lane => lane < 4
  | .receiveFrame bytes ragged _ => !bytes.isEmpty || ragged
  | .configure _ | .join | .leave | .reserve _ _ | .release _ | .commit _ | .flush _ | .resume _ | .fetch _
  | .readEvent | .readStatus | .readSlot _ | .readPeer _ | .reset | .resetAct | .fetchRemoval | .eventRemoval
  | .powerOn | .rstnFall | .rstnRise | .scheduledSlotStart | .openSlotStart | .ownFrameEnd _ | .cycleStart | .slotEnd
  | .settleExpire | .listenEnd | .waitingHomePick | .leaveTimeout | .peerAbsence | .relearnHoldExpire
  | .supplySettled => true

/-- The host commands of R175: the rows that the host sends as a transaction whose bytes make them. -/
def Instr.isTransaction : Instr → Bool
  | .configure _ | .join | .leave | .reserve _ _ | .release _ | .append _ _ _ | .commit _ | .flush _ | .resume _
  | .fetch _ | .readEvent | .readStatus | .readSlot _ | .readPeer _ | .reset | .unknownCommand _
  | .commandDiscard _ => true
  | .resetAct | .fetchRemoval | .eventRemoval | .powerOn | .rstnFall | .rstnRise | .receiveFrame _ _ _
  | .scheduledSlotStart | .openSlotStart | .ownFrameEnd _ | .cycleStart | .slotEnd | .lapse _ | .yieldWindowExpire _
  | .pendingExpiry _ | .barExpire _ | .settleExpire | .listenEnd | .waitingHomePick | .leaveTimeout | .peerAbsence
  | .deadlineReached _ | .relearnHoldExpire | .busyHoldExpire _ | .supplySettled => false

end Sys2Proof
end

