-- ==== Sys2Proof/Safety.lean ====
section
/-!
DEFINITION. What a station's state keeps to, whatever commands come: the invariants that the statements name. Each says
what the rules of spec/ promise of one part of the state, and all are decidable.
-/

namespace Sys2Proof.Machine

/-! ### Capacities and counts -/

/-- The attempt state of a queue's head is present exactly while there is a head, in the ranges of R82. -/
abbrev OpenSender.InRange (o : OpenSender) : Prop :=
  o.queue.length ≤ 4 ∧ (o.attempt.isSome ↔ o.queue ≠ [])
  ∧ (∀ a ∈ o.attempt, a.attempts ≤ 5 ∧ a.window ∈ [2, 4, 8, 16] ∧ a.backoff < a.window)
  ∧ o.generator < 64

/-- The event queue holds at most 16 records (R163), and the lost count is above 0 only while it is full (R165). -/
abbrev HostPort.InRange (p : HostPort) : Prop :=
  p.events.length ≤ 16 ∧ p.lost ≤ 255 ∧ (p.lost ≠ 0 → p.events.length = 16)

/-- At most 8 acks are owed, at most one to each (peer, channel) pair (R133). -/
abbrev Delivery.InRange (d : Delivery) : Prop :=
  d.owed.length ≤ 8 ∧ d.owed.Pairwise fun a b => (a.station, a.channel) ≠ (b.station, b.channel)

/-- Every count of a block is in the range its rule gives, and every collection within its capacity. -/
abbrev State.CountsBounded (s : State) : Prop :=
  s.line.faultCount ≤ 8
  ∧ s.timer.relearnHold ≤ 2 ∧ s.timer.reference ≤ s.station.address
  ∧ s.station.address ≤ 62 ∧ s.station.listenCount ≤ 2 ∧ s.station.leaveCount ≤ 8
  ∧ s.sender.InRange
  ∧ (∀ r ∈ s.peers, r.silence ≤ 16)
  ∧ (∀ t ∈ s.tx.lanes, t.busyHold ≤ 2 ∧ t.busyCount ≤ 64) ∧ s.tx.lastShared < 4
  ∧ s.delivery.InRange
  ∧ (∀ l ∈ s.rx.lanes, l.length ≤ 2)
  ∧ s.port.InRange

/-! ### Shapes -/

/-- The addresses whose absence is due, in the order in which they stand. -/
def CycleTimer.absencesDue (t : CycleTimer) : List Nat :=
  t.due.filterMap fun d => match d with
    | .absence a => some a
    | _ => none

/-- Every table has the entries its rule gives it, the timer stands inside the cycle of a configured code, at the end of
slot S-1 where a cycle start is the next mark (R2), the absences due stand in ascending order (R97; log entry 21), and a
station held in reset is unconfigured, silent and in no transaction (R169). -/
abbrev State.Sized (s : State) : Prop :=
  s.peers.length = 62 ∧ s.tx.lanes.length = 4 ∧ s.rx.lanes.length = 4 ∧ s.rx.notify.length = 4
  ∧ s.delivery.contexts.length = 248 ∧ s.sched.slots.length = s.scheduled
  ∧ (s.station.code.isSome ↔ s.station.life ≠ .unconfigured)
  ∧ (s.station.life.onLink → s.timer.position < s.slotCount)
  ∧ (s.timer.phase = .ended → s.timer.position + 1 = s.slotCount)
  ∧ s.timer.absencesDue.Pairwise (· < ·)
  ∧ (s.held → s.station.life = .unconfigured ∧ s.line.own = none ∧ s.port.transaction = none)

/-! ### The slot table -/

/-- A binding names one of the four lanes, or is SHARED (R60). -/
def Binding.inRange : Binding → Bool
  | .lane l => l ≤ 3
  | .shared => true

/-- The fields of an entry are in the ranges of R41, and a peer entry is owned by a peer, at a station with this own
address. -/
def Entry.inRange (own : Nat) (e : Entry) : Bool :=
  match e with
  | .free => true
  | .barred k => 1 ≤ k && k ≤ 16
  | .peerPending x k => 1 ≤ x && x ≤ 62 && x != own && 1 ≤ k && k ≤ 6
  | .peerHeld x k => 1 ≤ x && x ≤ 62 && x != own && k ≤ 7
  | .ownClaiming b _ settle => b.inRange && (match settle with | some k => 1 ≤ k && k ≤ 4 | none => true)
  | .ownHeld b _ r => b.inRange && r ≤ 2
  | .ownYielding b _ r w => b.inRange && 1 ≤ r && r ≤ 2 && 1 ≤ w && w ≤ 8

/-- Every entry of the slot table is in the ranges of R41. -/
abbrev State.TableInRange (s : State) : Prop :=
  s.station.address ≤ 62 ∧ ∀ e ∈ s.sched.slots, e.inRange s.station.address

/-- The claim in flight is a home claim. -/
def Schedule.claimsHome (d : Schedule) : Bool :=
  match d.claim with
  | some c => c.kind == .home
  | none => false

/-- Own entries, home flag and claim in flight fit the station state (R59, R60, R62): at most 8 own entries; while
JOINED or LEAVING exactly one entry carries the home flag, it is held or yielding, and claiming entries stand exactly
while a reservation is in flight, in LEAVING never; in JOINING the one own entry is the home claim; in every other state
there is none. -/
abbrev State.HomeCoherent (s : State) : Prop :=
  s.ownSlots ≤ 8
  ∧ (s.serves →
      s.sched.slots.countP Entry.isHome = 1
      ∧ (∀ e ∈ s.sched.slots, e.isHome → e.isClaiming = false)
      ∧ s.sched.claimsHome = false
      ∧ (s.sched.claim.isSome ↔ ∃ e ∈ s.sched.slots, e.isClaiming)
      ∧ (s.station.life = .leaving → s.sched.claim = none))
  ∧ (s.station.life = .joining →
      s.ownSlots = 1 ∧ (∀ e ∈ s.sched.slots, e.isOwn → e.isClaiming ∧ e.isHome) ∧ s.sched.claimsHome)
  ∧ (s.sendsControl = false → s.ownSlots = 0 ∧ s.sched.claim = none)

/-! ### The control queue -/

/-- A frame of the queue is one that may go out (R8, R9): a CLAIM or RELEASE lists 1 to 8 scheduled slots, ascending and
each once, and a LEAVE lists none. -/
abbrev CtlFrame.WellFormed (scheduled : Nat) (f : CtlFrame) : Prop :=
  if f.kind = .leave then f.slots = []
  else 1 ≤ f.slots.length ∧ f.slots.length ≤ 8 ∧ f.slots.Pairwise (· < ·) ∧ ∀ n ∈ f.slots, n < scheduled

/-- The CLAIM frames that the queue should hold: one that lists the claiming entries while the claim is UNSENT, none
otherwise (R59, R68). -/
def State.dueClaims (s : State) : List CtlFrame :=
  match s.sched.claim with
  | some ⟨_, .unsent⟩ => [⟨.claim, s.slotsWhere Entry.isClaiming⟩]
  | _ => []

/-- A control frame whose result will be reported is the head of the queue, unless a LEAVE has replaced it (R15, R90).
-/
def State.lineMatchesQueue (s : State) : Bool :=
  match s.line.own with
  | some ⟨.control f false, _, _, false⟩ => s.sender.queue.head? == some f
  | some ⟨.control _ true, _, _, false⟩ => s.station.life == .leaving
  | _ => true

/-- The queue fits the station state and the claim in flight (R59, R68, R82, R90, R91). -/
abbrev State.QueueCoherent (s : State) : Prop :=
  (∀ f ∈ s.sender.queue, f.WellFormed s.scheduled)
  ∧ s.sender.queue.filter (·.kind == .claim) = s.dueClaims
  ∧ (if s.station.life = .leaving then s.sender.queue = [⟨.leave, []⟩]
     else ∀ f ∈ s.sender.queue, f.kind ≠ .leave)
  ∧ (s.sendsControl = false → s.sender.queue = [])
  ∧ s.lineMatchesQueue

/-! ### Off the link -/

/-- Off the link nothing learned there is left (R20, R37, R40, R42, R95, R125, R127): the timer is stopped at slot 0 of
cycle 0 and every table, queue and lane is empty. A frame on the line runs on with its result discarded (R15). -/
abbrev State.CleanOffLink (s : State) : Prop :=
  s.station.life.onLink = false →
    s.timer = stoppedTimer s.station.address
    ∧ s.line.faultCount = 0 ∧ (∀ f ∈ s.line.own, f.discarded) ∧ s.line.atStart = none
    ∧ s.station.listenCount = 0 ∧ s.station.restartMark = false ∧ s.station.leaveCount = 0
    ∧ (∀ e ∈ s.sched.slots, e = .free) ∧ s.sched.claim = none
    ∧ s.sender = ⟨[], none, 0⟩
    ∧ (∀ r ∈ s.peers, r = ⟨false, 0, false⟩)
    ∧ (∀ t ∈ s.tx.lanes, t = t.offline) ∧ s.tx.lastShared = 3
    ∧ (∀ c ∈ s.delivery.contexts, c = none) ∧ s.delivery.owed = []
    ∧ ∀ l ∈ s.rx.lanes, l = []

/-! ### Presence -/

/-- What concerns a peer concerns a PRESENT one (R54, R102, R128, R133): every peer that owns a slot entry, every valid
receive context and every owed ack. -/
abbrev State.ConcernsPresent (s : State) : Prop :=
  (∀ e ∈ s.sched.slots, ∀ x ∈ e.peer?, s.isPresentPeer x)
  ∧ (∀ i < 248, (s.delivery.contexts.getD i none).isSome → s.isPresentPeer (i / 4 + 1))
  ∧ ∀ a ∈ s.delivery.owed, s.isPresentPeer a.station ∧ a.channel < 4

/-! ### Transmit lanes -/

/-- Where a position's state stands in the order SENT, COMMITTED, LOADING (R112). -/
def PosPhase.rank : PosPhase → Nat
  | .sent .. => 0
  | .committed => 1
  | .loading => 2

/-- A position's fields fit its state on a lane with this configuration (R112, R123, R140, R141): 1 to max payload
bytes, fewer while LOADING; a sequence from the first transmission on; SENT on unicast lanes only, with at most 6
retries, and eligible after 6 only where the lane cannot be served before they are discarded. -/
def Position.fits (c : LaneConfig) (served : Bool) (p : Position) : Bool :=
  1 ≤ p.payload.length && p.payload.length ≤ c.maxPayload &&
  match p.phase with
  | .loading => p.payload.length < c.maxPayload && p.seq.isNone
  | .committed => true
  | .sent _ retries _ eligible =>
      p.seq.isSome && c.destination != 63 && retries ≤ 6 && (!eligible || !served || retries ≤ 5)

/-- A lane's positions are within its depth and in order: SENT before COMMITTED before one LOADING at most (R112). A
disabled lane holds none (R107), and a broadcast lane is not halted (R110). -/
abbrev TxLane.Ordered (serves : Bool) (t : TxLane) : Prop :=
  t.positions.length ≤ t.depth
  ∧ t.positions.Pairwise (fun p q => p.phase.rank ≤ q.phase.rank ∧ p.phase ≠ .loading)
  ∧ (t.config = none → t.halt = none)
  ∧ ∀ c ∈ t.config, (∀ p ∈ t.positions, p.fits c (serves && t.ready)) ∧ (t.halt ≠ none → c.destination ≠ 63)

/-- Every transmit lane is ordered. -/
abbrev State.LanesOrdered (s : State) : Prop := ∀ t ∈ s.tx.lanes, t.Ordered s.serves

/-! ### All of them -/

/-- Every invariant of this file: what each part relies on of the others. -/
abbrev State.Coherent (s : State) : Prop :=
  s.CountsBounded ∧ s.Sized ∧ s.TableInRange ∧ s.HomeCoherent ∧ s.QueueCoherent ∧ s.CleanOffLink ∧ s.ConcernsPresent
  ∧ s.LanesOrdered

/-! ### Frames that a station may send -/

/-- The values of a body are in the ranges of R6 to R8 and its lists in the counts of R173. -/
def FrameBody.inRange (b : FrameBody) : Bool :=
  match b with
  | .data acks packet =>
      acks.length ≤ 3 && acks.all (fun a => a.station < 64 && a.channel < 4) &&
      match packet with
      | some p => p.destination < 64 && p.channel < 4 && 1 ≤ p.payload.length && p.payload.length ≤ 32
      | none => true
  | .claim slots | .release slots => 1 ≤ slots.length && slots.length ≤ 8 && slots.all (· < 256)
  | .leave => true

/-- The two bytes of an ack entry or packet part that carry a station, a channel, a sequence and a flag; the bits that
R172 does not assign are anything (R171). -/
def pairSpelled (x y : Byte) (station channel : Nat) (seq : Seq) (flag : Bool) : Prop :=
  x.toNat = channel * 64 + station ∧ y.toNat % 8 = seq.toNat ∧ y.getLsbD 7 = flag

/-- The bytes of an ack list, entry by entry, and what follows them (R172). -/
def acksSpelled : List AckEntry → List Byte → List Byte → Prop
  | [], bytes, rest => bytes = rest
  | a :: acks, x :: y :: bytes, rest => pairSpelled x y a.station a.channel a.next a.busy ∧ acksSpelled acks bytes rest
  | _ :: _, _, _ => False

/-- These bytes between header and CRC carry this body (R172). -/
def FrameBody.spelledBy (b : FrameBody) (bytes : List Byte) : Prop :=
  match b with
  | .data acks none =>
      ∃ d tail, bytes = d :: tail ∧ d.toNat % 8 = acks.length ∧ d.getLsbD 7 = false ∧ acksSpelled acks tail []
  | .data acks (some p) =>
      ∃ d tail x y, bytes = d :: tail ∧ d.toNat % 8 = acks.length ∧ d.getLsbD 7 = true
        ∧ acksSpelled acks tail (x :: y :: byteOf p.payload.length :: p.payload)
        ∧ pairSpelled x y p.destination p.channel p.seq p.start
  | .claim slots | .release slots => bytes = byteOf slots.length :: slots.map byteOf
  | .leave => bytes = []

/-- The frame is a valid one to a receiver with this own address (R11). -/
def Frame.validFor (own : Nat) (f : Frame) : Bool :=
  f.body.inRange && f.body.slotFits f.header.code f.header.slot && f.header.reference < 256
  && 1 ≤ f.header.sender && f.header.sender ≤ 62 && f.header.sender != own

/-! ### The host port -/

/-- A RESET was taken in the transaction in progress and has not acted yet (R167). -/
def State.resetWaits (s : State) : Bool :=
  match s.port.transaction with
  | some ⟨_, _, .reset⟩ => true
  | _ => false

/-- A new transaction meets the station as it stands: it is not held in reset (R169), and no RESET waits for the rise
of chip select. -/
abbrev State.PortReady (s : State) : Prop := s.held = false ∧ s.resetWaits = false

/-- The state in the transaction of this command, with this response and this effect tied to its end (R156). -/
def State.answered (c : Instr) (s : State) (st : Status) (data : List Byte := []) (ending : Ending := .none) : State :=
  { s with port.transaction := some ⟨c.transactionBytes.length, st.byte :: data, ending⟩ }

/-- Why one of APPEND, COMMIT, FLUSH and RESUME is refused by the checks of R113; none where it passes them. -/
def State.laneRefusal (s : State) (states : List StationState) (lane : Byte) : Option Status :=
  if s.station.life ∉ states then some .state
  else if 3 < lane.toNat then some .arg
  else if (s.lane lane.toNat).config = none then some .state
  else none

/-! ### Frames heard and sent -/

/-- The candidate of a matching frame (R21): the address it names as reference where that is its sender or a PRESENT
peer, and otherwise its sender. -/
def State.offered (s : State) (h : Header) : Nat :=
  if h.reference = h.sender ∨ s.isPresentPeer h.reference then h.reference else h.sender

/-- A frame of this span is judged in the slot in progress as it stands: its start is marked, or the frame began before
it (R10). -/
abbrev State.StartBehind (s : State) (span : FrameSpan) : Prop := span = .overSlotEnd ∨ s.timer.phase ≠ .starting

/-- A frame of this span ends at the instant of a slot start that is still to be marked (R10). -/
abbrev State.EndsAtStart (s : State) (span : FrameSpan) : Prop :=
  span = .atSlotEnd ∨ span = .overSlotEnd ∧ s.timer.phase ≠ .running

/-- The line unit takes these bytes as this valid matching frame, whose first bit came in this slot position and cycle
number (R10 to R12). -/
abbrev State.Hears (s : State) (bytes : List Byte) (ragged : Bool) (span : FrameSpan) (f : Frame)
    (position : Nat × CycleNum) : Prop :=
  s.hears span ∧ s.StartBehind span ∧ s.attribution span = some position
  ∧ Frame.read s.station.address bytes ragged = some f ∧ s.station.code = some f.header.code

/-- The report of what was heard in the slot in progress, with this frame added where it counts (R14, R48). Where it does
not and ends at a slot start still to be marked, that is noted (R10; log entry 5). -/
def State.heard (s : State) (span : FrameSpan) (counts : Bool) (dataFrom : List Nat) : LineUnit :=
  { s.line with
    heardValid := s.line.heardValid || counts
    heardData := if counts then s.line.heardData ++ dataFrom else s.line.heardData
    atStart := if counts = false ∧ s.EndsAtStart span then some .taken else s.line.atStart }

/-- An aligned frame counts as heard in the slot in progress: it lies in it, or a trim moves the slot end behind it (R14,
R23; log entry 5). -/
def State.trimCounts (s : State) (span : FrameSpan) (h : Header) : Bool :=
  span == .inSlot || span == .atSlotEnd && s.offered h ≤ s.timer.reference

/-- The sender of a matching frame becomes PRESENT, with PEER_UP where it was not (R96). -/
def State.withPresence (s : State) (x : Nat) : State :=
  let u := { s with peers := s.peers.set (x - 1) ⟨true, 0, false⟩ }
  if (s.peer x).present then u else u.post (.peerUp x)

/-- The timer after a trim on an aligned frame: a lower candidate becomes the reference, with REFERENCE_CHANGED(candidate,
no) but in LISTENING (R22, R28). -/
def State.trimmedBy (s : State) (h : Header) : State :=
  if s.offered h < s.timer.reference then
    let r := { s with timer.reference := s.offered h }
    if s.station.life = .listening then r else r.post (.referenceChanged (s.offered h) false)
  else s

/-- A due count that a frame whose timing is taken leaves due (log entry 23). -/
def Due.outlives (d : Due) : Bool :=
  match d with
  | .lapse _ | .pendingExpiry _ | .deadline _ _ | .relearnHold | .listenEnd => false
  | _ => true

/-- The timer in the slot and cycle of a frame whose timing is taken, which begins with its first bit (R24, R28). -/
def State.timerAt (s : State) (h : Header) (reference : Nat) (acquired : Bool) (hold : Nat) : CycleTimer :=
  ⟨h.slot, h.cycle, reference, acquired, hold, .running, none, s.timer.due.filter Due.outlives⟩

/-- The state after a resync: PEER entries FREE, the relearn hold at 2 and the deadlines renewed, with
REFERENCE_CHANGED(candidate, yes); in LISTENING the restart mark in place of hold and event (R22, R24, R25, R28, R53). The
event carries the new cycle number (log entry 20). -/
def State.resyncedBy (s : State) (h : Header) : State :=
  let listening := s.station.life = .listening
  let r := { s with
    timer := s.timerAt h (s.offered h) s.timer.acquired (if listening then s.timer.relearnHold else 2)
    station.restartMark := if listening then true else s.station.restartMark
    line := { s.line with sentInSlot := false, heardValid := false, heardData := [] }
    sched.slots := s.sched.slots.map fun (e : Entry) => if e.peer? = none then e else .free
    tx.lanes := s.tx.lanes.map fun (t : TxLane) =>
      { t with positions := t.positions.map fun (p : Position) => match p.phase with
        | .sent start retries _ eligible => { p with phase := .sent start retries (h.cycle + 4) eligible }
        | _ => p } }
  if listening then r else r.post (.referenceChanged (s.offered h) true)

/-- The state after the adoption of the first matching frame while listening (R28). -/
def State.adoptedFrom (s : State) (h : Header) : State :=
  { s with
    timer := s.timerAt h (if s.offered h < s.station.address then s.offered h else s.station.address) true
      s.timer.relearnHold
    station.restartMark := true
    line := { s.line with sentInSlot := false, heardValid := false, heardData := [] } }

/-- An aligned LEAVE frame from `x`: a PRESENT sender becomes ABSENT with its notice, and what it owns becomes FREE (R47,
R99). -/
def State.withLeave (s : State) (x : Nat) : State :=
  let u := { s with peers := s.peers.set (x - 1) ⟨false, (s.peer x).silence, false⟩ }
  (if (s.peer x).present then (u.post (.peerDown x)).absenceNotice x else u).freeEntries fun e => e.peer? == some x

/-- What the delivery unit does with a DATA frame from `x`: the ack entries in list order, then the packet part (R127). -/
def State.withDelivery (s : State) (x : Nat) (acks : List AckEntry) (packet : Option Packet) : State :=
  let t := acks.foldl (fun t a => t.applyAck x a) s
  match packet with
  | some k => t.judge x k
  | none => t

/-- The stages of R14 that follow the timer's decision on an aligned frame, from the state that it left: the report of
what was heard, the peer table, the schedule unit and, for a DATA frame, the delivery unit before or after that (R42,
R96, R99, R127; log entry 8). -/
def State.Stages (s : State) (f : Frame) (span : FrameSpan) (counts : Bool) (out : Host.Outcome State Fault Refusal) :
    Prop :=
  let x := f.header.sender
  let heard := fun (dataFrom : List Nat) => { s with line := s.heard span counts dataFrom }
  match f.body with
  | .claim _ | .release _ => out = .next (((heard []).withPresence x).learn f)
  | .leave => out = .next ((heard []).withLeave x)
  | .data acks packet =>
      let u := (heard [x]).withPresence x
      ∃ reads, out = .next { (u.learn f).withDelivery x acks packet with freeReads := reads }
        ∨ out = .next { (u.withDelivery x acks packet).learn f with freeReads := reads }

/-- A slot starts and the timer has not marked it yet; no own frame is on the line. -/
abbrev State.SlotStarts (s : State) : Prop := s.active ∧ s.timer.phase = .starting ∧ s.line.own = none

/-- The slot start is marked (R2). No frame heard ends there any more (R10). -/
def State.started (s : State) : State :=
  { s with timer := { s.timer with phase := .running }, line := { s.line with atStart := none } }

/-- What follows a slot start that leaves `u` with no own transmission begun: a frame under way there is received, behind
the slot end before (R10; log entry 5). -/
def State.silentStart (s u : State) : Host.Outcome State Fault Refusal :=
  match s.line.atStart with
  | some (.underWay bytes) => exec (.receiveFrame bytes false .overSlotEnd) u
  | some .taken | none => .next u

/-- The open-slot sender has a frame to send at an open slot start: it acts, and its head has backoff 0 and no relearn
hold stops it (R25, R82, R85). -/
abbrev State.HeadDue (s : State) : Prop :=
  s.station.life ∈ [.joining, .joined, .leaving]
  ∧ ∃ f rest a, s.sender.queue = f :: rest ∧ s.sender.attempt = some a ∧ a.backoff = 0
    ∧ (f.kind ≠ .claim ∨ s.timer.relearnHold = 0)

/-- As the station stands, an own transmission begins at the start of slot `m` (R15, R85, R122). -/
abbrev State.Begins (s : State) (m : Nat) : Prop :=
  if m < s.scheduled then (s.entry m).isHeld ∧ s.station.life ∈ [.joined, .leaving] else s.HeadDue

/-- The header of an own frame of a station with this cycle code (R5, R15). -/
def State.headerWith (s : State) (code : CycleCode) : Header :=
  ⟨code, s.station.address, s.timer.position, s.timer.cycle, s.timer.reference⟩

/-- The line unit with an own frame just begun (R1, R15, R16). A frame heard that ends there is discarded (R10). -/
def LineUnit.sending (l : LineUnit) (source : FrameSource) (f : Frame) : LineUnit :=
  { l with own := some ⟨source, f.bytes, .clean, false⟩, sentInSlot := true, atStart := none }

/-- The position at this place is the one the lane sends (R121): the oldest retransmit-eligible one, or else the oldest
COMMITTED one. -/
abbrev TxLane.Chooses (t : TxLane) (i : Nat) (p : Position) : Prop :=
  t.positions[i]? = some p ∧
  ((p.isEligible ∧ ∀ q ∈ t.positions.take i, q.isEligible = false)
    ∨ (p.phase = .committed ∧ (∀ q ∈ t.positions, q.isEligible = false)
        ∧ ∀ q ∈ t.positions.take i, q.phase ≠ .committed))

/-- The lane is the first eligible one in the shared order (R122). -/
abbrev State.FirstShared (s : State) (l : Nat) : Prop :=
  ∃ d < 4, l = (s.tx.lastShared + 1 + d) % 4 ∧ s.eligible l ∧ ∀ k < d, s.eligible ((s.tx.lastShared + 1 + k) % 4) = false

/-- The open-slot sender after its head has left (R83, R84): the next frame draws as the new head. -/
def State.withoutHead (s : State) : OpenSender :=
  let g := s.sender.generator
  match s.sender.queue.tail with
  | [] => ⟨[], none, g⟩
  | q => ⟨q, some ⟨0, 2, g % 2⟩, (5 * g + 2 * s.station.address + 1) % 64⟩

/-- The queue holds one CLAIM frame, with this list, between these frames. -/
abbrev State.ClaimQueued (s : State) (before : List CtlFrame) (slots : List Nat) (after : List CtlFrame) : Prop :=
  s.sender.queue = before ++ ⟨.claim, slots⟩ :: after ∧ ∀ f ∈ before ++ after, f.kind ≠ .claim

/-- The open-slot sender after the CLAIM frame between these frames has left the queue (R33, R68, R83). -/
def State.withoutClaim (s : State) (before after : List CtlFrame) : OpenSender :=
  if before = [] then s.withoutHead else { s.sender with queue := before ++ after }

/-- A JOINED station that has lost its last held slot gives up its own entries and its reservation and makes a home pick
(R33). -/
def State.startsOver (s : State) (lane : Nat) (sender : OpenSender) : State :=
  State.homePick (State.post { s with
    sched := ⟨s.sched.slots.map fun e => if e.isOwn then .free else e, none⟩
    sender := sender } (.reserveDone lane 0))

/-- The open-slot sender after a frame was appended (R83, R84, R88). -/
def State.withFrame (s : State) (f : CtlFrame) : OpenSender :=
  let g := s.sender.generator
  if s.sender.queue = [] then ⟨[f], some ⟨0, 2, g % 2⟩, (5 * g + 2 * s.station.address + 1) % 64⟩
  else { s.sender with queue := s.sender.queue ++ [f] }

/-- A claim that ends with nothing gained leaves its entries FREE (R33, R71, R80). -/
def State.unclaimed (s : State) : Schedule := ⟨s.sched.slots.map fun e => if e.isClaiming then .free else e, none⟩

/-! ### The move to OFFLINE -/

/-- What R37 leaves of a station: the configuration, the sequences and the notify flags, the event queue with LEFT at
its tail, and a frame on the line with its result discarded. -/
def State.offLink (s : State) (reason : LeftReason) : State :=
  let p := s.post (.left reason)
  { p with
    line := ⟨s.line.own.map fun f => { f with discarded := true }, 0, false, [], false, none⟩
    timer := ⟨0, 0, s.station.address, false, 0, .running, none, []⟩
    station := ⟨.offline, s.station.address, s.station.code, 0, false, 0⟩
    sched := ⟨List.replicate s.scheduled .free, none⟩
    sender := ⟨[], none, 0⟩
    peers := List.replicate 62 ⟨false, 0, false⟩
    tx := ⟨s.tx.lanes.map fun t => ⟨t.config, none, [], t.nextSeq, false, 0, 0⟩, 3⟩
    delivery := ⟨List.replicate 248 none, []⟩
    rx := ⟨List.replicate 4 [], s.rx.notify⟩ }

end Sys2Proof.Machine

namespace Sys2Proof

/-- The checks 2 to 8 of R159 on the arguments of a CONFIGURE. -/
abbrev ConfigureArgs.Accepted (a : ConfigureArgs) : Prop :=
  (1 ≤ a.address.toNat ∧ a.address.toNat ≤ 62) ∧ a.code.toNat ∈ [1, 2, 3]
  ∧ (∀ l ∈ a.lanes, l.destination ≠ 0 →
      l.destination.toNat ≤ 63 ∧ l.channel.toNat ≤ 3 ∧ l.maxPayload.toNat ∈ [8, 16, 32]
      ∧ l.share.toNat ∈ [0, 32, 64, 128] ∧ l.maxPayload.toNat ≤ l.share.toNat)
  ∧ (∀ l ∈ a.lanes, l.destination ≠ 0 → l.destination ≠ 63 → l.destination ≠ a.address)
  ∧ ((a.lanes.filter (·.destination != 0)).map (·.share.toNat)).sum ≤ 256
  ∧ (a.lanes.filter fun l => l.destination != 0 && l.destination != 63).Pairwise
      fun l m => (l.destination, l.channel) ≠ (m.destination, m.channel)

end Sys2Proof
end

