-- ==== Sys2Proof/Certificates/Slice0/Obligations.lean ====
section
/-!
DEFINITION. The statements for the provers. Each docstring names the rule or the section of spec/ that it formalises, or
the log entry where the statement rests on the model's own choice.
-/

open Sys2Proof Sys2Proof.Machine

/-! ### The machine -/

/-- The front command of the queue is run with the queue's rest, and an empty queue idles. The queue is the model's own
(log entry 10). -/
def Obligations.StepRunsFrontCommand : Prop :=
  ∀ s : State,
    (∀ c rest, s.pending = c :: rest → step s = exec c { s with pending := rest })
    ∧ (s.pending = [] → step s = .next s)

/-- Every step of the table completes in every state, and leaves the commands that wait. -/
def Obligations.EveryCommandCompletes : Prop :=
  ∀ (c : Instr) (s : State), ∃ t, exec c s = .next t ∧ t.pending = s.pending

/-- The values after power-on and reset meet every invariant. -/
def Obligations.ResetMeetsInvariants : Prop := State.reset.Coherent

/-- Capacities and ranges of counts (R18, R25, R29, R35, R82, R97, R109, R111, R133, R147, R163). -/
def Obligations.CountsStayBounded : Prop :=
  ∀ s t : State, s.Coherent → step s = .next t → t.CountsBounded

/-- Every slot table entry stays in the ranges of R41. -/
def Obligations.TableStaysInRange : Prop :=
  ∀ s t : State, s.Coherent → step s = .next t → t.TableInRange

/-- Every table keeps its number of entries, the slot position stays inside the cycle, and the absences due stay in
ascending order (R2, R41, R94, R97, R128; log entries 1 and 21). -/
def Obligations.TablesStaySized : Prop :=
  ∀ s t : State, s.Coherent → step s = .next t → t.Sized

/-- Own entries, home flag and claim in flight fit the station state (R59, R60, R62). -/
def Obligations.HomeStaysCoherent : Prop :=
  ∀ s t : State, s.Coherent → step s = .next t → t.HomeCoherent

/-- The control queue fits the station state and the claim in flight (R59, R68, R82, R90, R91). -/
def Obligations.QueueStaysCoherent : Prop :=
  ∀ s t : State, s.Coherent → step s = .next t → t.QueueCoherent

/-- Off the link nothing learned there is left (R20, R37, R42, R95, R125, R127). -/
def Obligations.OffLinkStaysClean : Prop :=
  ∀ s t : State, s.Coherent → step s = .next t → t.CleanOffLink

/-- Slot owners, receive contexts and owed acks concern PRESENT peers (R54, R102, R128, R133). -/
def Obligations.OnlyPresentPeersConcerned : Prop :=
  ∀ s t : State, s.Coherent → step s = .next t → t.ConcernsPresent

/-- The positions of every lane stay within its depth and in the order of R112, with at most 6 retries. -/
def Obligations.LanesStayOrdered : Prop :=
  ∀ s t : State, s.Coherent → step s = .next t → t.LanesOrdered

/-! ### Formats -/

/-- A station that may take a frame reads from its bytes the frame that was sent (R172 to R174). -/
def Obligations.FrameReadsBack : Prop :=
  ∀ (own : Nat) (f : Frame), f.validFor own → Frame.read own f.bytes false = some f

/-- A frame is read only from whole bytes with a correct CRC, of the count its fields declare and at most 50, of a kind
and a cycle code that the header names, from a sender in 1 to 62 other than the own address, in a slot that fits its
kind, with every field as its bytes give it (R11, R172, R173). -/
def Obligations.ValidFramePassesChecks : Prop :=
  ∀ (own : Nat) (bytes : List Byte) (ragged : Bool) (f : Frame), Frame.read own bytes ragged = some f →
    (ragged = false ∧ crc bytes = 0 ∧ bytes.length = f.bytes.length ∧ bytes.length ≤ 50 ∧ f.validFor own)
    ∧ bytes.take 6 = f.header.bytes f.body.kindByte
    ∧ f.body.spelledBy ((bytes.drop 6).take (bytes.length - 8))

/-- The bytes of a host command are decoded as that command, whatever bytes follow them, and a transaction cut short of
them is discarded (R155, R175). -/
def Obligations.HostCommandReadsBack : Prop :=
  ∀ i : Instr, i.isTransaction → i.wf → (∀ received, i ≠ .commandDiscard received) →
    (∀ extra, decodeTransaction (i.transactionBytes ++ extra) = i)
    ∧ ∀ k < i.transactionBytes.length,
        decodeTransaction (i.transactionBytes.take k) = .commandDiscard (i.transactionBytes.take k)

/-! ### The host port -/

/-- While the station is held in reset nothing but the pins and the supply changes it (R169). -/
def Obligations.HeldInResetTakesNothing : Prop :=
  ∀ (s : State) (c : Instr), s.held → s.line.own = none → c ∉ [.powerOn, .rstnFall, .rstnRise, .supplySettled] →
    exec c s = .next s

/-- A refused command returns its status alone and changes nothing (R157, R176). -/
def Obligations.RefusedCommandChangesNothing : Prop :=
  ∀ (s t : State) (c : Instr) (before : Nat) (status : Byte) (data : List Byte) (ending : Ending),
    c.isTransaction → s.PortReady → exec c s = .next t →
    t.port.transaction = some ⟨before, status :: data, ending⟩ →
    status ≠ Status.byte .ok →
    data = [] ∧ ending = .none ∧ t = { s with port.transaction := t.port.transaction }

/-- CONFIGURE is taken in UNCONFIGURED and OFFLINE, is refused with ARG where a check of R159 fails, and otherwise
replaces the whole configuration (R19, R159, R160). -/
def Obligations.ConfigureInstalls : Prop :=
  ∀ (s : State) (a : ConfigureArgs), s.PortReady →
    let code := CycleCode.ofNat? a.code.toNat
    let config := fun (l : LaneArgs) =>
      if l.destination = 0 then none
      else some (LaneConfig.mk l.destination.toNat l.channel.toNat l.maxPayload.toNat l.share.toNat
        (l.confirm.getLsbD 0))
    (s.station.life ∉ [.unconfigured, .offline] → exec (.configure a) s = .next (s.answered (.configure a) .state))
    ∧ (s.station.life ∈ [.unconfigured, .offline] → ¬ a.Accepted →
        exec (.configure a) s = .next (s.answered (.configure a) .arg))
    ∧ (s.station.life ∈ [.unconfigured, .offline] → a.Accepted →
        exec (.configure a) s = .next (State.answered (.configure a) { s with
          station := { s.station with life := .offline, address := a.address.toNat, code := code }
          timer := { s.timer with position := 0, cycle := 0, reference := a.address.toNat }
          sched := ⟨List.replicate ((code.map CycleCode.scheduled).getD 0) .free, none⟩
          tx := ⟨List.zipWith (fun t l => ⟨config l, none, [], t.nextSeq, false, 0, 0⟩) s.tx.lanes a.lanes, 3⟩
          rx := ⟨s.rx.lanes,
            [a.notify.getLsbD 0, a.notify.getLsbD 1, a.notify.getLsbD 2, a.notify.getLsbD 3]⟩ } .ok))

/-- JOIN takes an OFFLINE station to LISTENING, at slot 0 of cycle 0, with the generator at the own address; elsewhere it
is refused with STATE (R20, R27, R84). -/
def Obligations.JoinStartsListening : Prop :=
  ∀ s : State, s.PortReady →
    (s.station.life ≠ .offline → exec .join s = .next (s.answered .join .state))
    ∧ (s.station.life = .offline →
        exec .join s = .next (State.answered .join { s with
          station := { s.station with life := .listening, listenCount := 2, restartMark := false, leaveCount := 0 }
          timer := ⟨0, 0, s.station.address, false, 0, .running, none, []⟩
          line := ⟨s.line.own, 0, false, [], false, none⟩
          sender := { s.sender with generator := s.station.address } } .ok))

/-- LEAVE by the state it is taken in (R34, R35, R37, R80, R90): before JOINED the station moves to OFFLINE at once; in
JOINED it becomes LEAVING, a LEAVE frame replaces the queue and a reservation in flight ends with nothing gained. -/
def Obligations.LeaveByState : Prop :=
  ∀ s : State, s.PortReady →
    let g := s.sender.generator
    let leaving := { s with
      station := { s.station with life := .leaving, leaveCount := 8 }
      line.own := s.line.own.map fun (f : OwnFrame) => match f.source with
        | .control c _ => { f with source := .control c true }
        | .data _ => f
      sender := ⟨[⟨.leave, []⟩], some ⟨0, 2, g % 2⟩, (5 * g + 2 * s.station.address + 1) % 64⟩ }
    (s.station.life ∈ [.unconfigured, .offline, .leaving, .fault] → exec .leave s = .next (s.answered .leave .state))
    ∧ (s.station.life ∈ [.listening, .waiting, .joining] →
        exec .leave s = .next ((s.offLink .host).answered .leave .ok))
    ∧ (s.station.life = .joined → s.sched.claim = none → exec .leave s = .next (leaving.answered .leave .ok))
    ∧ ∀ lane phase, s.station.life = .joined → s.sched.claim = some ⟨.reservation lane, phase⟩ →
        exec .leave s = .next (State.answered .leave (State.post { leaving with
          sched := s.unclaimed } (.reserveDone lane 0)) .ok)

/-- The checks of RESERVE in the order of R61: the first that fails decides the status, and nothing changes. -/
def Obligations.ReserveRefusedInOrder : Prop :=
  ∀ (s : State) (lane n : Byte), s.PortReady →
    let checks : List (Prop × Status) := [
      (s.station.life = .joined, .state),
      (lane.toNat ≤ 3 ∧ (s.lane lane.toNat).config ≠ none, .arg),
      (1 ≤ n.toNat ∧ n.toNat ≤ 4, .arg),
      (s.sched.claim = none ∧ s.timer.relearnHold = 0 ∧ s.sender.queue.length < 4, .busy),
      (s.sched.slots.countP Entry.isOwn + n.toNat ≤ 8, .limit),
      (n.toNat ≤ s.sched.slots.count .free, .noSlots)]
    (∀ (k : Nat) (status : Prop × Status), checks[k]? = some status → ¬ status.1 → (∀ j < k, ∀ (earlier : Prop × Status), checks[j]? = some earlier → earlier.1) →
      exec (.reserve lane n) s = .next (s.answered (.reserve lane n) status.2))
    ∧ ((∀ c ∈ checks, c.1) →
        ∃ t, exec (.reserve lane n) s = .next t ∧ t.port.transaction = some ⟨3, [Status.byte .ok], .none⟩)

/-- A RESERVE that passes its checks takes the n lowest FREE slots, fills the record and queues the CLAIM (R62, R83,
R84, R88). -/
def Obligations.ReserveClaimsLowestFree : Prop :=
  ∀ (s : State) (lane n : Byte), s.PortReady →
    s.station.life = .joined → lane.toNat ≤ 3 → (s.lane lane.toNat).config ≠ none → 1 ≤ n.toNat → n.toNat ≤ 4 →
    s.sched.claim = none → s.timer.relearnHold = 0 → s.sender.queue.length < 4 →
    s.sched.slots.countP Entry.isOwn + n.toNat ≤ 8 → n.toNat ≤ s.sched.slots.count .free →
    let chosen := ((List.range s.sched.slots.length).filter (s.entry · == .free)).take n.toNat
    exec (.reserve lane n) s = .next (State.answered (.reserve lane n) { s with
      sched := ⟨s.sched.slots.mapIdx fun k e => if k ∈ chosen then .ownClaiming (.lane lane.toNat) false none else e,
        some ⟨.reservation lane.toNat, .unsent⟩⟩
      sender := s.withFrame ⟨.claim, chosen⟩ } .ok)

/-- RELEASE frees the held and yielding slots bound to the lane, but for the home slot, which becomes SHARED, and hands
them to the open-slot sender: they join the newest RELEASE frame that is not on the line and has room, or else go out in
a frame of their own, or in none where the queue is full (R72, R89). -/
def Obligations.ReleaseFreesBoundSlots : Prop :=
  ∀ (s : State) (lane : Byte), s.PortReady →
    let bound := fun (b : Binding) => b == .lane lane.toNat
    let freed := (List.range s.sched.slots.length).filter fun k => match s.entry k with
      | .ownHeld b false _ | .ownYielding b false _ _ => bound b
      | _ => false
    let u := { s with sched.slots := s.sched.slots.map fun (e : Entry) => match e with
      | .ownHeld b h r => if bound b then (if h then .ownHeld .shared true r else .free) else e
      | .ownYielding b h r w => if bound b then (if h then .ownYielding .shared true r w else .free) else e
      | e => e }
    let claiming := ∃ e ∈ s.sched.slots, ∃ h settle, e = .ownClaiming (.lane lane.toNat) h settle
    let mergeable := fun (i : Nat) (f : CtlFrame) =>
      s.sender.queue[i]? = some f ∧ f.kind = .release ∧ ¬ (i = 0 ∧ s.headOnLine)
      ∧ (∀ j f', i < j → s.sender.queue[j]? = some f' → f'.kind ≠ .release) ∧ f.slots.length + freed.length ≤ 8
    (s.station.life ≠ .joined → exec (.release lane) s = .next (s.answered (.release lane) .state))
    ∧ (s.station.life = .joined → 3 < lane.toNat → exec (.release lane) s = .next (s.answered (.release lane) .arg))
    ∧ (s.station.life = .joined → lane.toNat ≤ 3 → claiming → exec (.release lane) s = .next (s.answered (.release lane) .busy))
    ∧ (s.station.life = .joined → lane.toNat ≤ 3 → ¬ claiming →
        (freed = [] → exec (.release lane) s = .next (u.answered (.release lane) .ok))
        ∧ (∀ i f, freed ≠ [] → mergeable i f →
            exec (.release lane) s = .next (State.answered (.release lane) { u with
              sender.queue := s.sender.queue.set i ⟨.release, freed.foldl (fun l k => insertSlot k l) f.slots⟩ } .ok))
        ∧ (freed ≠ [] → (∀ i f, ¬ mergeable i f) → s.sender.queue.length < 4 →
            exec (.release lane) s = .next (State.answered (.release lane) { u with sender := s.withFrame ⟨.release, freed⟩ } .ok))
        ∧ (freed ≠ [] → (∀ i f, ¬ mergeable i f) → 4 ≤ s.sender.queue.length →
            exec (.release lane) s = .next (u.answered (.release lane) .ok)))

/-- APPEND, COMMIT, FLUSH and RESUME are refused by the checks of R113 in their order, with nothing changed. -/
def Obligations.LaneCommandsChecked : Prop :=
  ∀ (s : State) (lane count : Byte) (payload : List Byte) (status : Status), s.PortReady →
    (s.laneRefusal [.listening, .waiting, .joining, .joined] lane = some status →
      exec (.append lane count payload) s = .next (s.answered (.append lane count payload) status)
      ∧ exec (.commit lane) s = .next (s.answered (.commit lane) status))
    ∧ (s.laneRefusal [.listening, .waiting, .joining, .joined, .leaving, .fault] lane = some status →
        exec (.flush lane) s = .next (s.answered (.flush lane) status) ∧ exec (.resume lane) s = .next (s.answered (.resume lane) status))

/-- APPEND and COMMIT on a lane that takes them, by its positions (R114, R115). -/
def Obligations.AppendAndCommitLoad : Prop :=
  ∀ (s : State) (lane count : Byte) (payload : List Byte) (c : LaneConfig), s.PortReady →
    s.laneRefusal [.listening, .waiting, .joining, .joined] lane = none → (s.lane lane.toNat).config = some c →
    let t := s.lane lane.toNat
    let withPositions := fun (i : Instr) (ps : List Position) =>
      State.answered i (s.setLane lane.toNat { t with positions := ps }) .ok
    let depth := if c.maxPayload * 2 ≤ c.share then 2 else if c.maxPayload ≤ c.share then 1 else 0
    let loaded := fun (bytes : List Byte) =>
      Position.mk bytes none (if bytes.length = c.maxPayload then .committed else .loading)
    (count.toNat = 0 ∨ 32 < count.toNat → exec (.append lane count payload) s = .next (s.answered (.append lane count payload) .arg))
    ∧ (1 ≤ count.toNat → count.toNat ≤ 32 → payload.length = count.toNat →
        (∀ before bytes seq, t.positions = before ++ [⟨bytes, seq, .loading⟩] →
          bytes.length + payload.length ≤ c.maxPayload →
          exec (.append lane count payload) s = .next (withPositions (.append lane count payload) (before ++ [loaded (bytes ++ payload)])))
        ∧ (∀ before bytes seq, t.positions = before ++ [⟨bytes, seq, .loading⟩] →
            c.maxPayload < bytes.length + payload.length →
            exec (.append lane count payload) s = .next (s.answered (.append lane count payload) .arg))
        ∧ ((∀ p ∈ t.positions, p.phase ≠ .loading) → t.positions.length < depth → payload.length ≤ c.maxPayload →
            exec (.append lane count payload) s = .next (withPositions (.append lane count payload) (t.positions ++ [loaded payload])))
        ∧ ((∀ p ∈ t.positions, p.phase ≠ .loading) → t.positions.length < depth → c.maxPayload < payload.length →
            exec (.append lane count payload) s = .next (s.answered (.append lane count payload) .arg))
        ∧ ((∀ p ∈ t.positions, p.phase ≠ .loading) → depth ≤ t.positions.length →
            exec (.append lane count payload) s = .next (s.answered (.append lane count payload) .full)))
    ∧ (∀ before bytes seq, t.positions = before ++ [⟨bytes, seq, .loading⟩] →
        exec (.commit lane) s = .next (withPositions (.commit lane) (before ++ [⟨bytes, seq, .committed⟩])))
    ∧ ((∀ p ∈ t.positions, p.phase ≠ .loading) → exec (.commit lane) s = .next (s.answered (.commit lane) .empty))

/-- FLUSH empties a lane and RESUME turns its SENT positions back to COMMITTED; both make it READY and arm its start
flag (R116, R117). -/
def Obligations.FlushAndResumeRestart : Prop :=
  ∀ (s : State) (lane : Byte), s.PortReady →
    s.laneRefusal [.listening, .waiting, .joining, .joined, .leaving, .fault] lane = none →
    let t := s.lane lane.toNat
    exec (.flush lane) s = .next (State.answered (.flush lane)
      (s.setLane lane.toNat ⟨t.config, none, [], t.nextSeq, true, 0, 0⟩) .ok)
    ∧ (t.halt = none → exec (.resume lane) s = .next (s.answered (.resume lane) .state))
    ∧ (t.halt ≠ none → exec (.resume lane) s = .next (State.answered (.resume lane)
        (s.setLane lane.toNat ⟨t.config, none,
          t.positions.map fun (p : Position) => match p.phase with
            | .sent _ _ _ _ => ⟨p.payload, p.seq, .committed⟩
            | _ => p,
          t.nextSeq, true, 0, 0⟩) .ok))

/-- FETCH answers with the head record of a receive lane, and the completion of its last payload byte removes the head
(R149, R150, R176). After it, or once chip select has risen, nothing more is removed. -/
def Obligations.FetchAnswersThenRemoves : Prop :=
  ∀ (s : State) (lane : Byte),
    (s.PortReady → s.station.life = .unconfigured → exec (.fetch lane) s = .next (s.answered (.fetch lane) .state))
    ∧ (s.PortReady → s.station.life ≠ .unconfigured → 3 < lane.toNat →
        exec (.fetch lane) s = .next (s.answered (.fetch lane) .arg))
    ∧ (s.PortReady → s.station.life ≠ .unconfigured → lane.toNat ≤ 3 → s.rxLane lane.toNat = [] →
        exec (.fetch lane) s = .next (s.answered (.fetch lane) .empty))
    ∧ (∀ r rest, s.PortReady → s.station.life ≠ .unconfigured → lane.toNat ≤ 3 → s.rxLane lane.toNat = r :: rest →
        exec (.fetch lane) s = .next (s.answered (.fetch lane) .ok
          ([BitVec.ofNat 8 r.source, if r.broadcast then 1 else 0, (r.arrival >>> 8).setWidth 8,
            r.arrival.setWidth 8, BitVec.ofNat 8 r.payload.length] ++ r.payload) (.fetch lane.toNat)))
    ∧ (∀ before response l, s.held = false → s.port.transaction = some ⟨before, response, .fetch l⟩ →
        exec .fetchRemoval s = .next { s with
          rx.lanes := s.rx.lanes.modify l List.tail
          port.transaction := some ⟨before, response, .none⟩ })
    ∧ ((∀ before response l, s.port.transaction ≠ some ⟨before, response, .fetch l⟩) →
        exec .fetchRemoval s = .next s)

/-- READ_EVENT answers with the five bytes of the head event record: kind code, cycle number, and the arguments of its
kind or FFh. The completion of its last byte removes the head; from a full queue with a lost count, EVENTS_LOST takes the
tail (R164, R165, R176). After it, or once chip select has risen, nothing more is removed. -/
def Obligations.ReadEventAnswersThenRemoves : Prop :=
  ∀ s : State,
    let b := BitVec.ofNat 8
    let x : Byte := 0xFF
    let haltCode := fun (r : HaltReason) => match r with
      | .retry => (1 : Byte)
      | .busyLimit => 2
      | .absent => 3
    let kind : Event → Byte × Byte × Byte := fun
      | .joined slot => (0x01, b slot, x)
      | .waiting => (0x02, x, x)
      | .left .host => (0x03, 1, x)
      | .left .controlAbandoned => (0x03, 2, x)
      | .left .timeout => (0x03, 3, x)
      | .reserveDone lane gained => (0x04, b lane, b gained)
      | .slotLost slot .yielded => (0x05, b slot, 1)
      | .slotLost slot .abandoned => (0x05, b slot, 2)
      | .duplicateSuspect slot => (0x06, b slot, x)
      | .peerUp a => (0x07, b a, x)
      | .peerDown a => (0x08, b a, x)
      | .configMismatch a => (0x09, b a, x)
      | .referenceChanged a resync => (0x0A, b a, if resync then 1 else 0)
      | .laneHalted lane r => (0x0B, b lane, haltCode r)
      | .packetConfirmed lane q => (0x0C, b lane, b q.toNat)
      | .rxDropped lane source => (0x0D, b lane, b source)
      | .controlAbandoned .claim => (0x0E, 2, x)
      | .controlAbandoned .release => (0x0E, 3, x)
      | .controlAbandoned .leave => (0x0E, 4, x)
      | .lineFault => (0x0F, x, x)
      | .eventsLost n => (0x10, b n, x)
    (s.PortReady → s.port.events = [] → exec .readEvent s = .next (s.answered .readEvent .empty))
    ∧ (∀ r rest, s.PortReady → s.port.events = r :: rest →
        exec .readEvent s = .next (s.answered .readEvent .ok
          [(kind r.event).1, (r.cycle >>> 8).setWidth 8, r.cycle.setWidth 8, (kind r.event).2.1, (kind r.event).2.2]
          .event))
    ∧ (∀ before response, s.held = false → s.port.transaction = some ⟨before, response, .event⟩ →
        exec .eventRemoval s = .next { s with port :=
          if s.port.events.length = 16 ∧ 0 < s.port.lost then
            ⟨s.port.events.tail ++ [⟨.eventsLost s.port.lost, s.timer.cycle⟩], 0, some ⟨before, response, .none⟩⟩
          else ⟨s.port.events.tail, s.port.lost, some ⟨before, response, .none⟩⟩ })
    ∧ ((∀ before response, s.port.transaction ≠ some ⟨before, response, .event⟩) → exec .eventRemoval s = .next s)

/-- READ_STATUS and READ_PEER answer with the records of R176 and change nothing else (R104, R162). -/
def Obligations.ReadStatusAndPeerAnswer : Prop :=
  ∀ (s : State) (address : Byte), s.PortReady →
    let r := s.peer address.toNat
    let used := fun l => BitVec.ofNat 8 (s.lane l).positions.length
    let held := fun l => BitVec.ofNat 8 (s.rxLane l).length
    let laneCode := fun l => match (s.lane l).config, (s.lane l).halt with
      | none, _ => (0x00 : Byte)
      | some _, none => 0x01
      | some _, some .retry => 0x11
      | some _, some .busyLimit => 0x12
      | some _, some .absent => 0x13
    let life : Byte := match s.station.life with
      | .unconfigured => 0
      | .offline => 1
      | .listening => 2
      | .waiting => 3
      | .joining => 4
      | .joined => 5
      | .leaving => 6
      | .fault => 7
    exec .readStatus s = .next (s.answered .readStatus .ok
      [life, BitVec.ofNat 8 s.station.address, BitVec.ofNat 8 s.timer.reference,
        (s.timer.cycle >>> 8).setWidth 8, s.timer.cycle.setWidth 8,
        BitVec.ofNat 8 (s.sched.slots.countP Entry.isOwn),
        match s.sched.slots.findIdx? Entry.isHome with
        | some n => BitVec.ofNat 8 n
        | none => 0xFF,
        laneCode 0, used 0, laneCode 1, used 1, laneCode 2, used 2, laneCode 3, used 3, held 0, held 1, held 2, held 3,
        BitVec.ofNat 8 s.port.events.length, BitVec.ofNat 8 s.port.lost])
    ∧ (s.station.life = .unconfigured → exec (.readPeer address) s = .next (s.answered (.readPeer address) .state))
    ∧ (s.station.life ≠ .unconfigured → ¬ (1 ≤ address.toNat ∧ address.toNat ≤ 62) →
        exec (.readPeer address) s = .next (s.answered (.readPeer address) .arg))
    ∧ (s.station.life ≠ .unconfigured → 1 ≤ address.toNat → address.toNat ≤ 62 →
        exec (.readPeer address) s = .next (s.answered (.readPeer address) .ok
          [address, if address.toNat = s.station.address then 1 else 0, if r.present then 1 else 0,
            BitVec.ofNat 8 r.silence, if r.mismatch then 1 else 0]))

/-- READ_SLOT answers with the slot record of R176: the entry's state, its owner, and FFh in each field the state does
not carry (R41, R58). -/
def Obligations.ReadSlotShowsEntry : Prop :=
  ∀ (s : State) (slot : Byte), s.PortReady →
    let b := BitVec.ofNat 8
    let own := b s.station.address
    let flag := fun (h : Bool) => if h then (1 : Byte) else 0
    let x : Byte := 0xFF
    let bound := fun (d : Binding) => match d with
      | .lane l => b l
      | .shared => 4
    (s.station.life = .unconfigured → exec (.readSlot slot) s = .next (s.answered (.readSlot slot) .state))
    ∧ (s.station.life ≠ .unconfigured → s.scheduled ≤ slot.toNat →
        exec (.readSlot slot) s = .next (s.answered (.readSlot slot) .arg))
    ∧ (s.station.life ≠ .unconfigured → slot.toNat < s.scheduled →
        exec (.readSlot slot) s = .next (s.answered (.readSlot slot) .ok (slot :: match s.entry slot.toNat with
          | .free => [0, 0, x, x, x, x, x, x, x, x, x]
          | .barred k => [1, 0, b k, x, x, x, x, x, x, x, x]
          | .peerPending y k => [2, b y, x, b k, x, x, x, x, x, x, x]
          | .peerHeld y k => [3, b y, x, x, b k, x, x, x, x, x, x]
          | .ownClaiming d h none => [4, own, x, x, x, bound d, flag h, 0, x, x, x]
          | .ownClaiming d h (some k) => [4, own, x, x, x, bound d, flag h, 1, b k, x, x]
          | .ownHeld d h r => [5, own, x, x, x, bound d, flag h, x, x, b r, x]
          | .ownYielding d h r w => [6, own, x, x, x, bound d, flag h, x, x, b r, b w])))

/-- RESET is taken in every state and acts at the rise of chip select: every block takes its RESET column, and the
configuration stays (R40, R167, R168). A rise of chip select where none waits ends the transaction alone (log entry
24), and a RESET that waits acts before the next transaction's command (log entry 9). -/
def Obligations.ResetTakenThenActs : Prop :=
  ∀ s : State,
    let acted := { s with
      line := ⟨none, 0, false, [], false, none⟩
      timer := ⟨0, 0, s.station.address, false, 0, .running, none, []⟩
      station := ⟨if s.station.code = none then .unconfigured else .offline, s.station.address, s.station.code, 0, false, 0⟩
      sched := ⟨List.replicate s.scheduled .free, none⟩
      sender := ⟨[], none, 0⟩
      peers := List.replicate 62 ⟨false, 0, false⟩
      tx := ⟨s.tx.lanes.map fun t => ⟨t.config, none, [], 0, false, 0, 0⟩, 3⟩
      delivery := ⟨List.replicate 248 none, []⟩
      rx := ⟨List.replicate 4 [], s.rx.notify⟩
      port := ⟨[], 0, none⟩ }
    (s.PortReady → exec .reset s = .next (s.answered .reset .ok [] .reset))
    ∧ (s.held = false → s.resetWaits → exec .resetAct s = .next acted ∧ acted.intLow = false)
    ∧ (s.PortReady → exec .resetAct s = .next { s with port.transaction := none })
    ∧ ∀ c : Instr, c.isTransaction → s.held = false → s.resetWaits → exec c s = exec c acted

/-- Power-on and RSTN low give every block its power-on values, and INT is high; a rise of RSTN and a settled supply
change nothing but what holds the station in reset (R169, R170). The level of RSTN at power-on is the outside's (log
entry 15), and the model's own count and queue are kept. -/
def Obligations.PowerOnValues : Prop :=
  ∀ s : State,
    let values := fun (power : Power) => State.mk ⟨none, 0, false, [], false, none⟩ ⟨0, 0, 0, false, 0, .running, none, []⟩
      ⟨.unconfigured, 0, none, 0, false, 0⟩ ⟨[], none⟩ ⟨[], none, 0⟩ (List.replicate 62 ⟨false, 0, false⟩)
      ⟨List.replicate 4 ⟨none, none, [], 0, false, 0, 0⟩, 3⟩ ⟨List.replicate 248 none, []⟩
      ⟨List.replicate 4 [], List.replicate 4 false⟩ ⟨[], 0, none⟩ power s.freeReads s.pending
    exec .powerOn s = .next (values ⟨s.power.rstnLow, false⟩)
    ∧ exec .rstnFall s = .next (values ⟨true, s.power.settled⟩)
    ∧ exec .rstnRise s = .next { s with power := ⟨false, s.power.settled⟩ }
    ∧ exec .supplySettled s = .next { s with power := ⟨s.power.rstnLow, true⟩ }
    ∧ ∀ power, (values power).intLow = false

/-- A code that names no command is answered UNKNOWN, and a command cut short ends its transaction with no status. In
the transaction of every other command MISO reads 00h while the command's bytes come in, then the status and the data,
then 00h; the port drives nothing with chip select high or in reset (R154 to R156, R169). -/
def Obligations.UnknownAndDiscarded : Prop :=
  ∀ (s : State) (code : Byte) (received : List Byte),
    (s.PortReady →
      exec (.unknownCommand code) s = .next (s.answered (.unknownCommand code) .unknown)
      ∧ exec (.commandDiscard received) s = .next { s with port.transaction := none })
    ∧ (∀ c : Instr, c.isTransaction → s.held = false → (∀ bytes, c ≠ .commandDiscard bytes) →
        ∃ t status data ending, exec c s = .next t ∧ t.held = false
        ∧ t.port.transaction = some ⟨c.transactionBytes.length, status :: data, ending⟩
        ∧ (∀ k < c.transactionBytes.length, t.miso k = some 0)
        ∧ t.miso c.transactionBytes.length = some status
        ∧ (∀ k (h : k < data.length), t.miso (c.transactionBytes.length + 1 + k) = some data[k])
        ∧ ∀ k, c.transactionBytes.length + 1 + data.length ≤ k → t.miso k = some 0)
    ∧ ∀ k, s.held ∨ s.port.transaction = none → s.miso k = none

/-! ### Frames heard -/

/-- When the line unit takes a frame (R10): the station is active, drives no frame on the pair, and no own transmission
has begun since the frame's first bit or begins at the instant of its end (log entries 3 and 5). A frame at whose end one
may begin waits for that slot start, and any other frame not taken changes nothing, as an invalid one does (R11). A frame
that lies in the slot in progress finds its start passed (log entry 11). A mismatched frame sets its sender's mismatch
flag and goes no further (R12, R100). -/
def Obligations.FrameNotHandedOn : Prop :=
  ∀ (s : State) (bytes : List Byte) (ragged : Bool) (span : FrameSpan),
    let receives := s.active ∧ s.line.own = none ∧ s.line.atStart = none
    let straddles := s.timer.lastSlot ≠ none ∧ s.line.sentInSlot = false
    let next := if s.timer.position + 1 < s.slotCount then s.timer.position + 1 else 0
    (s.hears .inSlot ↔ receives)
    ∧ (s.hears .atSlotEnd ↔ receives ∧ ¬ s.Begins next)
    ∧ (s.hears .overSlotEnd ↔ receives ∧ straddles ∧ (s.timer.phase = .starting → ¬ s.Begins s.timer.position)
        ∧ (s.timer.phase = .ended → ¬ s.Begins next))
    ∧ (Frame.read s.station.address bytes ragged = none ∨ s.active = false →
        exec (.receiveFrame bytes ragged span) s = .next s)
    ∧ ∀ f, s.active → Frame.read s.station.address bytes ragged = some f →
        (¬ s.StartBehind span →
          ∃ t, s.silentStart s.started = .next t
            ∧ exec (.receiveFrame bytes ragged span) s = exec (.receiveFrame bytes ragged span) t)
        ∧ (s.StartBehind span → s.hears span = false → receives ∧ (span = .overSlotEnd → straddles) →
            exec (.receiveFrame bytes ragged span) s = .next { s with line.atStart := some (.underWay bytes) })
        ∧ (s.StartBehind span → ¬ (receives ∧ (span = .overSlotEnd → straddles)) →
            exec (.receiveFrame bytes ragged span) s = .next s)
        ∧ (s.StartBehind span → s.hears span → s.station.code ≠ some f.header.code →
            let x := f.header.sender
            let r := s.peer x
            let u := { s with line := s.heard span (span == .inSlot) [] }
            exec (.receiveFrame bytes ragged span) s = .next
              (if r.mismatch then u
               else State.post { u with peers := s.peers.set (x - 1) { r with mismatch := true } } (.configMismatch x)))

/-- A misaligned frame that brings no timing gives nothing but the presence of its sender (R13, R22, R96): its candidate
is higher than the reference, or is the reference named by another station. Alignment is judged by the slot and cycle of
the frame's first bit, over a cycle start too (log entry 4), and a frame that ends at a slot start is noted for it (log
entry 5). -/
def Obligations.MisalignedGivesPresenceOnly : Prop :=
  ∀ (s : State) (bytes : List Byte) (ragged : Bool) (span : FrameSpan) (f : Frame) (position : Nat × CycleNum),
    s.Hears bytes ragged span f position → position ≠ (f.header.slot, f.header.cycle) →
    ¬ (s.station.life = .listening ∧ s.timer.acquired = false) →
    (s.timer.reference < s.offered f.header
      ∨ s.offered f.header = s.timer.reference ∧ f.header.sender ≠ s.timer.reference) →
    exec (.receiveFrame bytes ragged span) s = .next
      (State.withPresence { s with line := s.heard span (span == .inSlot) [] } f.header.sender)

/-- A misaligned frame with a lower candidate, or from the reference itself, brings a resync (R22, R24, R25, R28, R53) and
goes on through the stages in the new timing (R13, R14); a fill frame in a slot the station does not claim or yield so
takes its slot (R43). Alignment is judged by the slot and cycle of the frame's first bit (log entry 4), the event carries
the new cycle number (log entry 20), counts due that the resync sets anew are gone (log entry 23), the marks of the old
timing still to come are never made (log entry 25), schedule and delivery unit take a DATA frame in a free order (log
entry 8), and the reference may be an ABSENT sender of a LEAVE frame (log entry 22). -/
def Obligations.MisalignedReferenceResyncs : Prop :=
  ∀ (s : State) (bytes : List Byte) (ragged : Bool) (span : FrameSpan) (f : Frame) (position : Nat × CycleNum),
    let h := f.header
    s.Hears bytes ragged span f position → position ≠ (h.slot, h.cycle) →
    ¬ (s.station.life = .listening ∧ s.timer.acquired = false) →
    (s.offered h < s.timer.reference ∨ s.offered h = s.timer.reference ∧ h.sender = s.timer.reference) →
    (s.resyncedBy h).Stages f span true (exec (.receiveFrame bytes ragged span) s)
    ∧ (f.body = .data [] none → ((s.entry h.slot).isOwn → (s.entry h.slot).isHeld) →
        let r := s.resyncedBy h
        let v := State.withPresence { r with line := r.heard span true [h.sender] } h.sender
        exec (.receiveFrame bytes ragged span) s = .next
          (if (s.entry h.slot).isHeld then v else v.setEntry h.slot (.peerHeld h.sender 0)))

/-- The first matching frame heard while listening is adopted with its timing, whatever its kind and sender, posts no
event of its own, restarts the listen count and goes on through the stages (R13, R14, R28, R29); a fill frame so takes its
slot. Counts due that the adoption sets anew are gone (log entry 23), the marks of the old timing still to come are never
made (log entry 25), schedule and delivery unit take a DATA frame in a free order (log entry 8), and the reference may be
an ABSENT sender of a LEAVE frame (log entry 22). -/
def Obligations.FirstFrameAdopted : Prop :=
  ∀ (s : State) (bytes : List Byte) (ragged : Bool) (span : FrameSpan) (f : Frame) (position : Nat × CycleNum),
    let h := f.header
    s.Hears bytes ragged span f position → s.station.life = .listening → s.timer.acquired = false →
    (s.adoptedFrom h).Stages f span true (exec (.receiveFrame bytes ragged span) s)
    ∧ (f.body = .data [] none → (s.entry h.slot).isOwn = false →
        let r := s.adoptedFrom h
        exec (.receiveFrame bytes ragged span) s = .next
          ((State.withPresence { r with line := r.heard span true [h.sender] } h.sender).setEntry h.slot
            (.peerHeld h.sender 0)))

/-- An aligned DATA frame takes its slot for its sender unless the station holds the slot (R22, R43, R96): here a fill
frame without acks, in a slot the station does not claim or yield. A lower candidate becomes the reference with a trim.
What a DATA frame teaches is the same whatever acks and packet it carries, in every entry of the slot (R43, R45).
Alignment is judged by the slot and cycle of the frame's first bit (log entry 4), and a frame that ends at the slot end
counts as heard after a trim (log entry 5). -/
def Obligations.AlignedDataFrameLearned : Prop :=
  (∀ (s : State) (h : Header) (acks : List AckEntry) (packet : Option Packet),
    s.learn ⟨h, .data acks packet⟩ = s.learnData h.sender h.slot)
  ∧ (∀ (s : State) (x n : Nat),
    let taken := s.setEntry n (.peerHeld x 0)
    (s.scheduled ≤ n → s.learnData x n = s)
    ∧ (n < s.scheduled → s.learnData x n = match s.entry n with
        | .free | .barred _ | .peerPending _ _ | .peerHeld _ _ => taken
        | .ownHeld _ _ _ => s
        | .ownClaiming b home settle => taken.lossNotice n (.ownClaiming b home settle)
        | .ownYielding b home round w => taken.lossNotice n (.ownYielding b home round w)))
  ∧ ∀ (s : State) (bytes : List Byte) (ragged : Bool) (span : FrameSpan) (h : Header),
    s.Hears bytes ragged span ⟨h, .data [] none⟩ (h.slot, h.cycle) →
    ¬ (s.station.life = .listening ∧ s.timer.acquired = false) →
    ((s.entry h.slot).isOwn → (s.entry h.slot).isHeld) →
    let x := h.sender
    let r := if s.offered h < s.timer.reference then { s with timer.reference := s.offered h } else s
    let r := if s.offered h < s.timer.reference ∧ s.station.life ≠ .listening then
        r.post (.referenceChanged (s.offered h) false) else r
    let u := { r with
      line := s.heard span (s.trimCounts span h) [x]
      peers := s.peers.set (x - 1) ⟨true, 0, false⟩ }
    let v := if (s.peer x).present then u else u.post (.peerUp x)
    exec (.receiveFrame bytes ragged span) s = .next
      (if (s.entry h.slot).isHeld then v else v.setEntry h.slot (.peerHeld x 0))

/-- An aligned frame of any kind trims, its candidate becoming the reference where it is lower (R22), and goes through the
stages: the peer table, then the schedule unit, and a DATA frame to the delivery unit as well, its ack entries in list
order and then its packet part (R14, R42, R96, R127). The order of the two units is free (log entry 8), alignment is
judged by the slot and cycle of the frame's first bit (log entry 4), and a frame that ends at the slot end counts as heard
after a trim (log entry 5). The reference may be an ABSENT sender of a LEAVE frame (log entry 22). -/
def Obligations.AlignedFrameStages : Prop :=
  ∀ (s : State) (bytes : List Byte) (ragged : Bool) (span : FrameSpan) (f : Frame),
    s.Hears bytes ragged span f (f.header.slot, f.header.cycle) →
    ¬ (s.station.life = .listening ∧ s.timer.acquired = false) →
    (s.trimmedBy f.header).Stages f span (s.trimCounts span f.header) (exec (.receiveFrame bytes ragged span) s)

/-- An aligned LEAVE frame makes a PRESENT sender ABSENT with its notice, leaves an ABSENT one as it is, and frees every
entry the sender owns (R47, R99). Its candidate becomes the reference where it is lower, that of an ABSENT sender too (log
entry 22). Alignment is judged by the slot and cycle of the frame's first bit (log entry 4), and a frame that ends at the
slot end counts as heard after a trim (log entry 5). -/
def Obligations.LeaveFrameTaken : Prop :=
  ∀ (s : State) (bytes : List Byte) (ragged : Bool) (span : FrameSpan) (h : Header),
    s.Hears bytes ragged span ⟨h, .leave⟩ (h.slot, h.cycle) →
    ¬ (s.station.life = .listening ∧ s.timer.acquired = false) →
    let x := h.sender
    let r := s.peer x
    let u := { s with line := s.heard span (s.trimCounts span h) [] }
    let lower := { u with timer.reference := s.offered h }
    let left := fun (t : State) =>
      let t := { t with peers := s.peers.set (x - 1) ⟨false, r.silence, false⟩ }
      Host.Outcome.next (φ := Fault) (ρ := Refusal)
        ((if r.present then (t.post (.peerDown x)).absenceNotice x else t).freeEntries fun e => e.peer? == some x)
    exec (.receiveFrame bytes ragged span) s =
      if s.timer.reference ≤ s.offered h then left u
      else if s.station.life = .listening then left lower
      else left (lower.post (.referenceChanged (s.offered h) false))

/-- What a CLAIM heard from `x` does to each slot it lists, each once and in list order (R8, R44, R45). Each loss notice,
home pick included, is acted on before the next slot is judged (log entry 6). -/
def Obligations.ClaimFrameLearned : Prop :=
  (∀ (s : State) (x n : Nat),
    let taken := s.setEntry n (.peerPending x 6)
    (s.scheduled ≤ n → s.learnClaim x n = s)
    ∧ (n < s.scheduled → s.learnClaim x n = match s.entry n with
        | .free => taken
        | .peerPending y _ => if x < y ∨ x = y then taken else s
        | .ownClaiming b h settle => if x < s.station.address then taken.lossNotice n (.ownClaiming b h settle) else s
        | .barred _ | .peerHeld _ _ | .ownHeld _ _ _ | .ownYielding _ _ _ _ => s))
  ∧ ∀ (s : State) (h : Header) (slots : List Nat),
    (slots.Nodup → s.learn ⟨h, .claim slots⟩ = slots.foldl (fun s n => s.learnClaim h.sender n) s)
    ∧ ∀ before n after, slots = before ++ n :: after → n ∈ before →
        s.learn ⟨h, .claim slots⟩ = s.learn ⟨h, .claim (before ++ after)⟩

/-- A RELEASE heard frees the listed entries that its sender owns, and a LEAVE all that its sender owns; every other
entry is unchanged (R46, R47). -/
def Obligations.ReleaseAndLeaveLearned : Prop :=
  ∀ (s : State) (h : Header) (slots : List Nat), s.sched.slots.length = s.scheduled →
    s.learn ⟨h, .release slots⟩ = { s with
      sched.slots := s.sched.slots.mapIdx fun n e => if n ∈ slots ∧ e.peer? = some h.sender then .free else e }
    ∧ s.learn ⟨h, .leave⟩ = { s with
      sched.slots := s.sched.slots.map fun (e : Entry) => if e.peer? = some h.sender then .free else e }

/-- What the loss of an own slot brings (R32, R33, R36, R45, R68 to R70, R76, R78): of a claimed or yielding one to an
aligned DATA frame, and of a claimed one to an aligned CLAIM from a lower address. -/
def Obligations.OwnSlotLost : Prop :=
  ∀ (s : State) (x n : Nat) (taken : Entry) (after : State), n < s.scheduled →
    (taken = .peerHeld x 0 ∧ after = s.learnData x n
      ∨ taken = .peerPending x 6 ∧ (s.entry n).isClaiming ∧ x < s.station.address ∧ after = s.learnClaim x n) →
    let u := s.setEntry n taken
    let others := fun (p : Entry → Bool) => ∃ k, k ≠ n ∧ p (s.entry k)
    (∀ b r w, s.entry n = .ownYielding b false r w → after = u.post (.slotLost n .yielded))
    ∧ (∀ b r w m c h q, s.entry n = .ownYielding b true r w → s.entry m = .ownHeld c h q →
        (∀ k < m, (s.entry k).isHeld = false) →
        after = (u.post (.slotLost n .yielded)).setEntry m (.ownHeld c true q))
    ∧ (∀ b r w, s.entry n = .ownYielding b true r w → ¬ others Entry.isHeld → s.station.life = .leaving →
        after = (u.post (.slotLost n .yielded)).offLink .host)
    ∧ (∀ b r w, s.entry n = .ownYielding b true r w → ¬ others Entry.isHeld → s.station.life = .joined →
        s.sched.claim = none →
        after =
          ((u.post (.slotLost n .yielded)).freeEntries fun e => e.isOwn && !e.isClaiming).homePick)
    ∧ (∀ b r w lane, s.entry n = .ownYielding b true r w → ¬ others Entry.isHeld → s.station.life = .joined →
        let v := u.post (.slotLost n .yielded)
        (∀ before slots rest, s.sched.claim = some ⟨.reservation lane, .unsent⟩ → s.ClaimQueued before slots rest →
          after = v.startsOver lane (s.withoutClaim before rest))
        ∧ (∀ mark, s.sched.claim = some ⟨.reservation lane, .announced mark⟩ →
            (∀ f ∈ s.sender.queue, f.kind ≠ .claim) → after = v.startsOver lane s.sender))
    ∧ (∀ b h settle claim before slots rest, s.entry n = .ownClaiming b h settle →
        s.sched.claim = some ⟨claim, .unsent⟩ → others Entry.isClaiming →
        s.ClaimQueued before slots rest → slots.filter (· ≠ n) ≠ [] →
        after = { u with sender.queue := before ++ ⟨.claim, slots.filter (· ≠ n)⟩ :: rest })
    ∧ (∀ b h settle before rest, s.entry n = .ownClaiming b h settle → ¬ others Entry.isClaiming →
        s.ClaimQueued before [n] rest →
        let v := { u with sched.claim := none, sender := s.withoutClaim before rest }
        (∀ lane, s.sched.claim = some ⟨.reservation lane, .unsent⟩ → after = v.post (.reserveDone lane 0))
        ∧ (s.sched.claim = some ⟨.home, .unsent⟩ → after = v.homePick))
    ∧ (∀ b h settle claim mark, s.entry n = .ownClaiming b h settle →
        s.sched.claim = some ⟨claim, .announced mark⟩ → others Entry.isClaiming → after = u)
    ∧ (∀ b h settle lane mark, s.entry n = .ownClaiming b h settle →
        s.sched.claim = some ⟨.reservation lane, .announced mark⟩ → ¬ others Entry.isClaiming →
        after = State.post { u with sched.claim := none } (.reserveDone lane 0))
    ∧ (∀ b h settle mark, s.entry n = .ownClaiming b h settle → s.sched.claim = some ⟨.home, .announced mark⟩ →
        ¬ others Entry.isClaiming → after = State.homePick { u with sched.claim := none })

/-- A peer whose count reaches 16 becomes ABSENT, with PEER_DOWN and its notice (R97, R98, R54, R135): its entries,
contexts and owed acks go, and each READY lane to it halts. Where it was the reference, the own address takes its place
and REFERENCE_CHANGED stands before or after the halts (R26; log entry 7). The count runs out as a due one (log entry 1),
and the row takes the lowest address that is due (log entry 21): the absences due stand ascending, which every step
keeps (TablesStaySized). -/
def Obligations.PeerAbsenceTaken : Prop :=
  ∀ (s : State) (p : Nat), s.active → s.tx.lanes.length = 4 → 1 ≤ p → p ≠ s.station.address →
    s.nextAbsence = some p → (s.peer p).present → 15 ≤ (s.peer p).silence →
    let halts := fun (t : TxLane) => match t.config with
      | some c => c.destination == p && p != 63 && t.halt == none
      | none => false
    let u := { s with
      timer.due := s.timer.due.erase (.absence p)
      peers := s.peers.set (p - 1) ⟨false, 16, (s.peer p).mismatch⟩
      sched.slots := s.sched.slots.map fun (e : Entry) => if e.peer? = some p then .free else e
      delivery := ⟨s.delivery.contexts.mapIdx fun i c => if i / 4 = p - 1 then none else c,
        s.delivery.owed.filter fun a => a.station != p⟩
      tx.lanes := s.tx.lanes.map fun (t : TxLane) => if halts t then { t with halt := some .absent } else t }
    let down := [Event.peerDown p]
    let halted := ([0, 1, 2, 3].filter fun l => halts (s.lane l)).map fun l => Event.laneHalted l .absent
    let changed := [Event.referenceChanged s.station.address false]
    (s.timer.absencesDue.Pairwise (· < ·) → .absence p ∈ s.timer.due ∧ ∀ a, .absence a ∈ s.timer.due → p ≤ a)
    ∧ (s.timer.reference ≠ p → exec .peerAbsence s = .next (u.postAll (down ++ halted)))
    ∧ (s.timer.reference = p → s.station.life = .listening →
        exec .peerAbsence s = .next (State.postAll { u with timer.reference := s.station.address } (down ++ halted)))
    ∧ (s.timer.reference = p → s.station.life ≠ .listening →
        ∃ events ∈ [down ++ changed ++ halted, down ++ halted ++ changed], ∃ reads,
          exec .peerAbsence s = .next (State.postAll { u with
            timer.reference := s.station.address, freeReads := reads } events))

/-! ### Acknowledged delivery -/

/-- The judgement of a packet from `p` (R129, R130, R131): delivered, answered busy, taken as a duplicate or discarded,
by the context of its pair and the room of its receive lane. -/
def Obligations.UnicastJudged : Prop :=
  ∀ (s : State) (p : Nat) (k : Packet),
    let own := k.destination = s.station.address
    let c := k.channel
    let context := s.delivery.contexts.getD ((p - 1) * 4 + c) none
    let set := fun (v : Seq) => { s with delivery.contexts := s.delivery.contexts.set ((p - 1) * 4 + c) (some v) }
    let inSequence := k.start = false ∧ context = some k.seq ∨ k.start = true ∧ context ≠ some (k.seq + 1)
    (s.station.life ≠ .joined → s.judge p k = s)
    ∧ (¬ own → k.destination ≠ 63 → s.judge p k = s)
    ∧ (s.station.life = .joined → own →
        (k.start = true → context = some (k.seq + 1) → s.judge p k = s.owe p c (k.seq + 1) false)
        ∧ (k.start = false → context = none → s.judge p k = s)
        ∧ (inSequence → (s.rxLane c).length < 2 →
            s.judge p k = State.owe { set (k.seq + 1) with
              rx.lanes := s.rx.lanes.modify c (· ++ [⟨p, false, k.payload, s.timer.cycle⟩]) } p c (k.seq + 1) false)
        ∧ (inSequence → 2 ≤ (s.rxLane c).length → s.judge p k = (set k.seq).owe p c k.seq true)
        ∧ (∀ e, k.start = false → context = some e → k.seq = e - 1 ∨ k.seq = e - 2 →
            s.judge p k = s.owe p c e false)
        ∧ (∀ e, k.start = false → context = some e → k.seq ≠ e → k.seq ≠ e - 1 → k.seq ≠ e - 2 → s.judge p k = s))

/-- A broadcast is judged in JOINED without a context: delivered with its flag set where its receive lane has room, and
dropped with RX_DROPPED where it has none; no ack is owed (R129, R132, R148). -/
def Obligations.BroadcastJudged : Prop :=
  ∀ (s : State) (p : Nat) (k : Packet), k.destination = 63 → s.station.address ≤ 62 →
    let c := k.channel
    (s.station.life ≠ .joined → s.judge p k = s)
    ∧ (s.station.life = .joined → (s.rxLane c).length < 2 →
        s.judge p k = { s with
          rx.lanes := s.rx.lanes.modify c (· ++ [⟨p, true, k.payload, s.timer.cycle⟩]) })
    ∧ (s.station.life = .joined → 2 ≤ (s.rxLane c).length → s.judge p k = s.post (.rxDropped c p))

/-- An owed ack takes the place of its pair's entry, or the tail, from a full list without the head; the list keeps to 8
entries and one to a pair (R133). -/
def Obligations.AckOwedPlaced : Prop :=
  ∀ (owed : List AckEntry) (a : AckEntry),
    let other := fun (o : AckEntry) => (o.station, o.channel) ≠ (a.station, a.channel)
    (∀ before o after, owed = before ++ o :: after → ¬ other o → (∀ b ∈ before ++ after, other b) →
      oweAck owed a = before ++ a :: after)
    ∧ ((∀ o ∈ owed, other o) → owed.length < 8 → oweAck owed a = owed ++ [a])
    ∧ ((∀ o ∈ owed, other o) → 8 ≤ owed.length → oweAck owed a = owed.tail ++ [a])
    ∧ (Delivery.InRange ⟨[], owed⟩ → Delivery.InRange ⟨[], oweAck owed a⟩)

/-- An ack entry that names another station or selects no lane has no effect. One that names the own address frees the
SENT positions it covers on the lane to its sender and channel, and its busy flag then holds the lane and counts towards
the limit (R111, R136 to R138). -/
def Obligations.AckApplied : Prop :=
  ∀ (s : State) (p l : Nat) (a : AckEntry) (c : LaneConfig), s.tx.lanes.length = 4 →
    let selects := fun k => ∃ c', (s.lane k).config = some c' ∧ c'.destination = p ∧ p ≠ 63 ∧ c'.channel = a.channel
    (a.station ≠ s.station.address ∨ (∀ k < 4, ¬ selects k) → s.applyAck p a = s)
    ∧ (a.station = s.station.address → l < 4 → (s.lane l).config = some c → selects l → (∀ k < l, ¬ selects k) →
        let t := s.lane l
        let e := a.next
        let sentWith := fun (q : Seq) (p : Position) => match p.phase with
          | .sent _ _ _ _ => p.seq == some q
          | _ => false
        let covers := fun (p : Position) => sentWith (e - 1) p || sentWith (e - 2) p
        let freed := t.positions.filter covers
        let rest := t.positions.filter (!covers ·)
        let count := if freed = [] then t.busyCount else 0
        let u := State.postAll (s.setLane l { t with positions := rest, busyCount := count })
          (if c.confirm then freed.map fun p => .packetConfirmed l (p.seq.getD 0) else [])
        let busied := { t with
          positions := rest.map fun p => match p.phase with
            | .sent start _ deadline _ => if p.seq = some e then { p with phase := .sent start 0 deadline true } else p
            | _ => p
          busyHold := 2
          busyCount := min (count + 1) 64 }
        (a.busy = false ∨ (∀ q ∈ rest, sentWith e q = false) → s.applyAck p a = u)
        ∧ (a.busy → (∃ q ∈ rest, sentWith e q) → count + 1 < 64 ∨ t.halt ≠ none →
            s.applyAck p a = u.setLane l busied)
        ∧ (a.busy → (∃ q ∈ rest, sentWith e q) → 64 ≤ count + 1 → t.halt = none →
            s.applyAck p a = (u.setLane l { busied with halt := some .busyLimit }).post (.laneHalted l .busyLimit)))

/-- A post takes the tail of the event queue with the cycle number, or is counted as lost at 16 records, up to 255; INT
is low after it. INT is low exactly while the event queue holds a record or a receive lane with its notify flag set does,
and is high in reset (R152, R163, R166, R169). -/
def Obligations.EventPosted : Prop :=
  ∀ (s : State) (e : Event),
    (s.port.events.length < 16 → s.post e = { s with port.events := s.port.events ++ [⟨e, s.timer.cycle⟩] })
    ∧ (16 ≤ s.port.events.length → s.port.lost < 255 → s.post e = { s with port.lost := s.port.lost + 1 })
    ∧ (16 ≤ s.port.events.length → s.port.lost = 255 → s.post e = s)
    ∧ (s.held = false → (s.post e).intLow)
    ∧ (s.intLow ↔ s.held = false ∧ (s.port.events ≠ []
        ∨ ∃ (l : Nat) (records : List RxRecord), s.rx.notify[l]? = some true ∧ s.rx.lanes[l]? = some records ∧ records ≠ []))

/-! ### Own frames -/

/-- At the start of a scheduled slot a frame goes out only where the station holds the slot in JOINED or LEAVING, and it
is a fill frame with the owed acks in LEAVING and where no lane is eligible (R121, R122, R123, R134). A frame heard that
ends there is discarded with it and taken without it, and where one was taken no frame goes out (R10; log entry 5). -/
def Obligations.HeldSlotFilled : Prop :=
  ∀ (s : State) (code : CycleCode), s.SlotStarts → s.station.code = some code → s.timer.position < code.scheduled →
    (((s.entry s.timer.position).isHeld = false ∨ s.station.life ∉ [.joined, .leaving]) →
      exec .scheduledSlotStart s = s.silentStart s.started)
    ∧ (s.line.atStart = some .taken → exec .scheduledSlotStart s = .next s.started)
    ∧ ((s.entry s.timer.position).isHeld → s.line.atStart ≠ some .taken →
        (s.station.life = .leaving ∨ s.station.life = .joined ∧ ∀ l, s.eligible l = false) →
        exec .scheduledSlotStart s = .next { s with
          timer.phase := .running
          delivery.owed := s.delivery.owed.drop 3
          line := s.line.sending (.data s.timer.position) ⟨s.headerWith code, .data (s.delivery.owed.take 3) none⟩ })
    ∧ ∀ l, s.eligible l ↔ ∃ c i p, (s.lane l).config = some c ∧ (s.lane l).halt = none ∧ (s.lane l).busyHold = 0
        ∧ (c.destination = 63 ∨ s.isPresentPeer c.destination) ∧ (s.lane l).Chooses i p

/-- In JOINED a held slot carries a packet of the lane it is bound to, where that is eligible, or of the first eligible
lane in the shared order, which is then recorded (R119 to R123, R134, R140). A frame heard that ends there is discarded,
unless it was taken, when no frame goes out, as HeldSlotFilled says (R10; log entry 5). -/
def Obligations.PacketSent : Prop :=
  ∀ (s : State) (code : CycleCode) (b : Binding) (home : Bool) (round l i : Nat) (c : LaneConfig) (p : Position),
    s.SlotStarts → s.station.code = some code → s.timer.position < code.scheduled → s.station.life = .joined →
    s.entry s.timer.position = .ownHeld b home round → s.line.atStart ≠ some .taken →
    (s.lane l).config = some c → s.eligible l → (s.lane l).Chooses i p →
    let t := s.lane l
    let start := t.armed || (match p.phase with
      | .sent st _ _ _ => st
      | _ => false)
    let retries := match p.phase with
      | .sent _ r _ _ => r + 1
      | _ => 0
    let seq := p.seq.getD t.nextSeq
    let sent := { t with
      positions :=
        if c.destination = 63 then t.positions.eraseIdx i
        else t.positions.set i ⟨p.payload, some seq, .sent start retries (s.timer.cycle + 4) false⟩
      nextSeq := if p.seq = none then t.nextSeq + 1 else t.nextSeq
      armed := false }
    let after := fun (lastShared : Nat) => { s with
      timer.phase := .running
      delivery.owed := s.delivery.owed.drop 3
      tx := ⟨s.tx.lanes.set l sent, lastShared⟩
      line := s.line.sending (.data s.timer.position) ⟨s.headerWith code,
        .data (s.delivery.owed.take 3) (some ⟨c.destination, c.channel, seq, start, p.payload⟩)⟩ }
    (b = .lane l → exec .scheduledSlotStart s = .next (after s.tx.lastShared))
    ∧ (b = .shared ∨ (∃ k, b = .lane k ∧ s.eligible k = false) → s.FirstShared l →
        exec .scheduledSlotStart s = .next (after l))

/-- What the open-slot sender does at an open slot start with the head of its queue (R25, R82, R85). A frame heard that
ends there is discarded where the head goes out and taken otherwise, and where one was taken no frame goes out (R10; log
entry 5). -/
def Obligations.OpenSlotActs : Prop :=
  ∀ (s : State) (code : CycleCode), s.SlotStarts → s.station.code = some code → code.scheduled ≤ s.timer.position →
    (s.station.life ∉ [.joining, .joined, .leaving] ∨ s.sender.queue = [] →
      exec .openSlotStart s = s.silentStart s.started)
    ∧ ∀ f rest a, s.station.life ∈ [.joining, .joined, .leaving] → s.sender.queue = f :: rest →
        s.sender.attempt = some a →
        (f.kind = .claim → s.timer.relearnHold ≠ 0 → exec .openSlotStart s = s.silentStart s.started)
        ∧ (f.kind ≠ .claim ∨ s.timer.relearnHold = 0 → a.backoff = 0 → s.line.atStart = some .taken →
            exec .openSlotStart s = .next s.started)
        ∧ (f.kind ≠ .claim ∨ s.timer.relearnHold = 0 → a.backoff = 0 → s.line.atStart ≠ some .taken →
            exec .openSlotStart s = .next { s with
              timer.phase := .running
              line := s.line.sending (.control f false) ⟨s.headerWith code, match f.kind with
                | .claim => .claim f.slots
                | .release => .release f.slots
                | .leave => .leave⟩ })
        ∧ (f.kind ≠ .claim ∨ s.timer.relearnHold = 0 → a.backoff ≠ 0 →
            exec .openSlotStart s = s.silentStart { s.started with
              sender.attempt := some ⟨a.attempts, a.window, a.backoff - 1⟩ })

/-- The readback of a DATA frame on the entry of its slot (R16, R18, R33, R36, R73, R74, R77, R78): clean, it clears the
round and the line-fault count; failed, it begins a yield round with its window, or after the second round bars the slot,
and a home slot so lost passes its flag on, or ends the stay, or takes a reservation in flight with it. A discarded result
changes nothing (R15). -/
def Obligations.DataFrameResult : Prop :=
  ∀ (s : State) (differed : Bool) (n : Nat) (bytes : List Byte) (readback : Readback) (discarded : Bool),
    s.line.own = some ⟨.data n, bytes, readback, discarded⟩ →
    let failed := differed = true ∨ readback = .failed
    let clean := { s with line := { s.line with own := none, faultCount := 0 } }
    let bad := { s with line := { s.line with own := none, faultCount := s.line.faultCount + 1 } }
    let barred := (bad.setEntry n (.barred 16)).postAll [.slotLost n .abandoned, .duplicateSuspect n]
    (discarded = true → exec (.ownFrameEnd differed) s = .next { s with line.own := none })
    ∧ (discarded = false → ¬ failed → exec (.ownFrameEnd differed) s = .next (match s.entry n with
        | .ownHeld b h _ => clean.setEntry n (.ownHeld b h 0)
        | _ => clean))
    ∧ (discarded = false → failed → s.line.faultCount < 7 → (s.entry n).isHeld = false →
        exec (.ownFrameEnd differed) s = .next bad)
    ∧ (∀ b h, discarded = false → failed → s.line.faultCount < 7 → s.entry n = .ownHeld b h 0 →
        exec (.ownFrameEnd differed) s = .next (bad.setEntry n (.ownYielding b h 1 (1 + s.station.address % 8))))
    ∧ (∀ b h, discarded = false → failed → s.line.faultCount < 7 → s.entry n = .ownHeld b h 1 →
        exec (.ownFrameEnd differed) s = .next (bad.setEntry n (.ownYielding b h 2 (1 + s.station.address / 8))))
    ∧ (∀ b, discarded = false → failed → s.line.faultCount < 7 → s.entry n = .ownHeld b false 2 →
        exec (.ownFrameEnd differed) s = .next barred)
    ∧ (∀ b m c h q, discarded = false → failed → s.line.faultCount < 7 → s.entry n = .ownHeld b true 2 → m ≠ n →
        s.entry m = .ownHeld c h q → (∀ k < m, k ≠ n → (s.entry k).isHeld = false) →
        exec (.ownFrameEnd differed) s = .next (barred.setEntry m (.ownHeld c true q)))
    ∧ (∀ b, discarded = false → failed → s.line.faultCount < 7 → s.entry n = .ownHeld b true 2 →
        (∀ m, m ≠ n → (s.entry m).isHeld = false) →
        (s.station.life = .leaving → exec (.ownFrameEnd differed) s = .next (barred.offLink .host))
        ∧ (s.station.life = .joined → s.sched.claim = none →
            exec (.ownFrameEnd differed) s = .next
              (State.homePick (barred.freeEntries fun e => e.isOwn && !e.isClaiming)))
        ∧ (∀ lane before slots after, s.station.life = .joined →
            s.sched.claim = some ⟨.reservation lane, .unsent⟩ → s.ClaimQueued before slots after →
            exec (.ownFrameEnd differed) s = .next (barred.startsOver lane (s.withoutClaim before after)))
        ∧ (∀ lane mark, s.station.life = .joined → s.sched.claim = some ⟨.reservation lane, .announced mark⟩ →
            (∀ f ∈ s.sender.queue, f.kind ≠ .claim) →
            exec (.ownFrameEnd differed) s = .next (barred.startsOver lane s.sender)))

/-- The readback of a control frame (R18, R36, R66, R71, R84 to R87, R90): clean, the head leaves and its purpose is
complete; failed, it is retried with a wider window, or abandoned at the sixth attempt. A replaced frame counts towards
the line fault alone, and a discarded result changes nothing (R15). -/
def Obligations.ControlFrameResult : Prop :=
  ∀ (s : State) (differed : Bool) (f : CtlFrame) (bytes : List Byte) (readback : Readback),
    let failed := differed = true ∨ readback = .failed
    let clean := { s with line := { s.line with own := none, faultCount := 0 } }
    let bad := { s with line := { s.line with own := none, faultCount := s.line.faultCount + 1 } }
    let g := s.sender.generator
    (s.line.own = some ⟨.control f false, bytes, readback, false⟩ → ¬ failed →
      (∀ kind, f.kind = .claim → s.sched.claim = some ⟨kind, .unsent⟩ →
        exec (.ownFrameEnd differed) s = .next { clean with
          sender := s.withoutHead
          sched := ⟨s.sched.slots.mapIdx fun n e => match e with
            | .ownClaiming b h _ => if n ∈ f.slots then .ownClaiming b h (some 4) else e
            | e => e, some ⟨kind, .announced true⟩⟩ })
      ∧ (f.kind = .release → exec (.ownFrameEnd differed) s = .next { clean with sender := s.withoutHead })
      ∧ (f.kind = .leave → exec (.ownFrameEnd differed) s = .next (clean.offLink .host)))
    ∧ (∀ a, s.line.own = some ⟨.control f false, bytes, readback, false⟩ → failed → s.line.faultCount < 7 →
        s.sender.attempt = some a → a.attempts < 5 →
        let window := match a.attempts with
          | 0 => 4
          | 1 => 8
          | _ => 16
        exec (.ownFrameEnd differed) s = .next { bad with
          sender := ⟨s.sender.queue, some ⟨a.attempts + 1, window, g % window⟩,
            (5 * g + 2 * s.station.address + 1) % 64⟩ })
    ∧ (∀ a, s.line.own = some ⟨.control f false, bytes, readback, false⟩ → failed → s.line.faultCount < 7 →
        s.sender.attempt = some a → 5 ≤ a.attempts →
        let gone := State.post { bad with sender := s.withoutHead } (.controlAbandoned f.kind)
        (∀ lane phase, f.kind = .claim → s.sched.claim = some ⟨.reservation lane, phase⟩ →
          exec (.ownFrameEnd differed) s = .next
            (State.post { gone with sched := s.unclaimed } (.reserveDone lane 0)))
        ∧ (∀ phase, f.kind = .claim → s.sched.claim = some ⟨.home, phase⟩ →
            exec (.ownFrameEnd differed) s = .next (State.homePick { gone with sched := s.unclaimed }))
        ∧ (f.kind = .release → exec (.ownFrameEnd differed) s = .next gone)
        ∧ (f.kind = .leave → exec (.ownFrameEnd differed) s = .next (gone.offLink .controlAbandoned)))
    ∧ (s.line.own = some ⟨.control f true, bytes, readback, false⟩ →
        (¬ failed → exec (.ownFrameEnd differed) s = .next clean)
        ∧ (failed → s.line.faultCount < 7 → exec (.ownFrameEnd differed) s = .next bad))
    ∧ (∀ replaced, s.line.own = some ⟨.control f replaced, bytes, readback, true⟩ →
        exec (.ownFrameEnd differed) s = .next { s with line.own := none })

/-- The eighth failed own transmission in a row takes the station to FAULT, is reported to no other block, frees the own
entries and empties the control queue, the contexts and the owed acks (R18, R38, R55, R145). -/
def Obligations.EighthFailureFaults : Prop :=
  ∀ (s : State) (differed : Bool) (source : FrameSource) (bytes : List Byte) (readback : Readback),
    s.line.own = some ⟨source, bytes, readback, false⟩ → differed = true ∨ readback = .failed →
    s.line.faultCount = 7 →
    exec (.ownFrameEnd differed) s = .next (State.postAll { s with
      line := { s.line with own := none, faultCount := 8 }
      station := { s.station with life := .fault, listenCount := 0, restartMark := false, leaveCount := 0 }
      sched := ⟨s.sched.slots.map fun (e : Entry) => if e.isOwn then .free else e, none⟩
      sender := ⟨[], none, s.sender.generator⟩
      delivery := ⟨List.replicate 248 none, []⟩ }
      (.lineFault :: match s.sched.claim with
        | some ⟨.reservation lane, _⟩ => [.reserveDone lane 0]
        | _ => []))

/-! ### Marks and counts -/

/-- A cycle start (R2, R3, R25, R29, R36, R50, R51, R67, R97, R111, R141): the cycle number increases, every count that
does not run out steps, and each that runs out is due. It comes at the end of slot S-1 and changes nothing elsewhere (log
entries 2 and 11). Counts still due from the mark before are completed first (log entry 1). -/
def Obligations.CycleStartCounts : Prop :=
  (∀ s : State, s.active = false ∨ s.timer.phase ≠ .ended → exec .cycleStart s = .next s)
  ∧ (∀ s : State, s.active → s.timer.phase = .ended →
      s.catchUp.timer.due = []
      ∧ exec .cycleStart s = if s.catchUp.active then exec .cycleStart s.catchUp else .next s.catchUp)
  ∧ ∀ s : State, s.active → s.timer.phase = .ended → s.timer.due = [] →
    let settling : Bool := match s.sched.claim with
      | some ⟨_, .announced false⟩ => true
      | _ => false
    ∃ t, exec .cycleStart s = .next t
    ∧ (t.timer.position = 0 ∧ t.timer.cycle = s.timer.cycle + 1 ∧ t.timer.phase = .starting
      ∧ t.timer.lastSlot = some (s.timer.position, s.timer.cycle))
    ∧ (t.timer.reference = s.timer.reference ∧ t.timer.acquired = s.timer.acquired)
    ∧ t.timer.relearnHold = (if 1 < s.timer.relearnHold then s.timer.relearnHold - 1 else s.timer.relearnHold)
    ∧ t.line = { s.line with sentInSlot := false, heardData := [], heardValid := false }
    ∧ t.station = { s.station with
        restartMark := s.station.restartMark && s.station.life != .listening
        listenCount :=
          if s.station.life = .listening then
            if s.station.restartMark then 2
            else if 1 < s.station.listenCount then s.station.listenCount - 1 else s.station.listenCount
          else s.station.listenCount
        leaveCount :=
          if s.station.life = .leaving ∧ 1 < s.station.leaveCount then s.station.leaveCount - 1
          else s.station.leaveCount }
    ∧ (∀ n, t.entry n = match s.entry n with
        | .peerPending x k => .peerPending x (if 1 < k then k - 1 else k)
        | .barred k => .barred (if 1 < k then k - 1 else k)
        | .ownClaiming b h (some k) =>
            if settling ∧ ¬ s.sched.slots.any Entry.settles then
              .ownClaiming b h (some (k - 1))
            else .ownClaiming b h (some k)
        | e => e)
    ∧ (t.sched.claim = match s.sched.claim with
        | some ⟨kind, .announced _⟩ => some ⟨kind, .announced false⟩
        | c => c)
    ∧ (∀ a, 1 ≤ a → t.peer a = { s.peer a with
        silence :=
          if (s.peer a).present ∧ a ≠ s.station.address ∧ (s.peer a).silence < 15 then (s.peer a).silence + 1
          else (s.peer a).silence })
    ∧ (∀ l, t.lane l = { s.lane l with
        busyHold := if 1 < (s.lane l).busyHold then (s.lane l).busyHold - 1 else (s.lane l).busyHold })
    ∧ (t.tx.lastShared = s.tx.lastShared ∧ t.sender = s.sender ∧ t.delivery = s.delivery ∧ t.rx = s.rx
      ∧ t.port = s.port ∧ t.power = s.power ∧ t.freeReads = s.freeReads ∧ t.pending = s.pending)
    ∧ t.timer.absencesDue.Pairwise (· < ·)
    ∧ ∀ d, d ∈ t.timer.due ↔ match d with
        | .lapse _ | .yieldEnd _ => False
        | .pendingExpiry n => ∃ x k, s.entry n = .peerPending x k ∧ k ≤ 1
        | .barExpire n => ∃ k, s.entry n = .barred k ∧ k ≤ 1
        | .settle => settling ∧ s.sched.slots.any Entry.settles
        | .listenEnd => s.station.life = .listening ∧ s.station.restartMark = false ∧ s.station.listenCount ≤ 1
        | .waitingPick => s.station.life = .waiting
        | .leaveTimeout => s.station.life = .leaving ∧ s.station.leaveCount ≤ 1
        | .absence a => 1 ≤ a ∧ a ≤ 62 ∧ (s.peer a).present ∧ a ≠ s.station.address ∧ 15 ≤ (s.peer a).silence
        | .deadline l q => l < 4 ∧ ∃ p ∈ (s.lane l).positions, p.reached (s.timer.cycle + 1) ∧ p.seq.getD 0 = q
        | .relearnHold => s.timer.relearnHold = 1
        | .busyHold l => l < 4 ∧ (s.lane l).busyHold = 1

/-- A slot end (R2, R48, R49, R75): the silence or window of the slot in progress steps, or is due where it runs out, and
the timer passes to the next slot, or waits for the cycle start after slot S-1. No slot ends while it waits or while the
timer is stopped (log entries 2 and 11). A start that was not marked has passed, and counts still due from the mark before
are completed first (log entry 1). -/
def Obligations.SlotEndCounts : Prop :=
  (∀ s : State, s.active = false ∨ s.timer.phase = .ended → exec .slotEnd s = .next s)
  ∧ (∀ s : State, s.active → s.timer.phase = .starting →
      ∃ t, s.silentStart s.started = .next t ∧ exec .slotEnd s = exec .slotEnd t)
  ∧ (∀ s : State, s.active → s.timer.phase = .running →
      s.catchUp.timer.due = []
      ∧ exec .slotEnd s = if s.catchUp.active then exec .slotEnd s.catchUp else .next s.catchUp)
  ∧ ∀ s : State, s.active → s.timer.phase = .running → s.timer.due = [] →
    let n := s.timer.position
    let after := fun (e : Entry) (due : List Due) => Host.Outcome.next (φ := Fault) (ρ := Refusal) { s with
      line := { s.line with sentInSlot := false, heardData := [], heardValid := false }
      sched.slots := s.sched.slots.set n e
      timer := { s.timer with
        lastSlot := some (n, s.timer.cycle)
        position := if n + 1 < s.slotCount then n + 1 else n
        phase := if n + 1 < s.slotCount then .starting else .ended
        due := due } }
    exec .slotEnd s = match s.entry n with
      | .peerHeld x k =>
          if x ∈ s.line.heardData then after (.peerHeld x k) []
          else if k < 7 then after (.peerHeld x (k + 1)) []
          else after (.peerHeld x k) [.lapse n]
      | .ownYielding b h r w =>
          if s.line.sentInSlot ∨ s.line.heardValid then after (.ownYielding b h r w) []
          else if 1 < w then after (.ownYielding b h r (w - 1)) []
          else after (.ownYielding b h r w) [.yieldEnd n]
      | e => after e []

/-- The last step of a count that is due (R25, R49, R50, R51, R75, R111): a lapse, a pending expiry and a bar free the
entry, a window returns it to OWN_HELD, and a hold becomes 0; one that is not due changes nothing (log entries 1 and 2).
-/
def Obligations.CountsTakeLastStep : Prop :=
  ∀ (s : State) (n : Nat), s.active →
    let taken := fun (d : Due) => { s with timer.due := s.timer.due.erase d }
    (∀ x, .lapse n ∈ s.timer.due → s.entry n = .peerHeld x 7 →
      exec (.lapse n) s = .next ((taken (.lapse n)).setEntry n .free))
    ∧ (∀ b h r, .yieldEnd n ∈ s.timer.due → s.entry n = .ownYielding b h r 1 →
        exec (.yieldWindowExpire n) s = .next ((taken (.yieldEnd n)).setEntry n (.ownHeld b h r)))
    ∧ (∀ x, .pendingExpiry n ∈ s.timer.due → s.entry n = .peerPending x 1 →
        exec (.pendingExpiry n) s = .next ((taken (.pendingExpiry n)).setEntry n .free))
    ∧ (.barExpire n ∈ s.timer.due → s.entry n = .barred 1 →
        exec (.barExpire n) s = .next ((taken (.barExpire n)).setEntry n .free))
    ∧ (.relearnHold ∈ s.timer.due → s.timer.relearnHold = 1 →
        exec .relearnHoldExpire s = .next { taken .relearnHold with
          timer := { s.timer with relearnHold := 0, due := s.timer.due.erase .relearnHold } })
    ∧ (.busyHold n ∈ s.timer.due → (s.lane n).busyHold = 1 →
        exec (.busyHoldExpire n) s = .next ((taken (.busyHold n)).setLane n { s.lane n with busyHold := 0 }))
    ∧ (∀ c d, (c, d) ∈ [(Instr.lapse n, Due.lapse n), (.yieldWindowExpire n, .yieldEnd n),
          (.pendingExpiry n, .pendingExpiry n), (.barExpire n, .barExpire n), (.relearnHoldExpire, .relearnHold),
          (.busyHoldExpire n, .busyHold n), (.settleExpire, .settle), (.listenEnd, .listenEnd),
          (.waitingHomePick, .waitingPick), (.leaveTimeout, .leaveTimeout)] →
        d ∉ s.timer.due → exec c s = .next s)

/-- The settle reaching 0 wins every entry of the claim (R32, R67, R70, R119): a reservation reports the number won, and
a home claim makes the station JOINED and arms its READY lanes, whose SENT positions become COMMITTED. -/
def Obligations.SettleWins : Prop :=
  ∀ s : State, s.active → .settle ∈ s.timer.due → s.sched.slots.any Entry.settles →
    let u := { s with
      timer.due := s.timer.due.erase .settle
      sched := ⟨s.sched.slots.map fun (e : Entry) => match e with
        | .ownClaiming b h _ => .ownHeld b h 0
        | e => e, none⟩ }
    (∀ lane, s.sched.claim = some ⟨.reservation lane, .announced false⟩ →
      exec .settleExpire s = .next (u.post (.reserveDone lane (s.sched.slots.countP Entry.isClaiming))))
    ∧ (∀ n, s.sched.claim = some ⟨.home, .announced false⟩ → s.sched.slots.findIdx? Entry.isHome = some n →
        exec .settleExpire s = .next (State.post { u with
          station.life := .joined
          tx.lanes := s.tx.lanes.map fun (t : TxLane) =>
            if t.config ≠ none ∧ t.halt = none then { t with
              armed := true
              positions := t.positions.map fun (p : Position) => match p.phase with
                | .sent _ _ _ _ => { p with phase := .committed }
                | _ => p }
            else t } (.joined n)))

/-- The end of listening and each cycle start in WAITING bring a home pick, which claims the lowest FREE slot or leaves
the station WAITING; the leave count running out takes the station OFFLINE (R29, R30, R31, R36, R64). -/
def Obligations.StationCountsEnd : Prop :=
  ∀ s : State, s.active →
    let taken := fun (d : Due) => { s with timer.due := s.timer.due.erase d }
    let claims := fun (u : State) (n : Nat) => { u with
      station.life := .joining
      sched := ⟨u.sched.slots.set n (.ownClaiming .shared true none), some ⟨.home, .unsent⟩⟩
      sender := u.withFrame ⟨.claim, [n]⟩ }
    let lowest := fun (n : Nat) =>
      n < s.sched.slots.length ∧ s.entry n = .free ∧ (∀ k < n, s.entry k ≠ .free) ∧ s.sender.queue.length < 4
    let none' := (∀ e ∈ s.sched.slots, e ≠ .free) ∨ 4 ≤ s.sender.queue.length
    (.listenEnd ∈ s.timer.due → s.station.life = .listening → s.station.restartMark = false →
        s.station.listenCount ≤ 1 →
        let u := { taken .listenEnd with station.listenCount := 0 }
        (∀ n, lowest n → exec .listenEnd s = .next (claims u n))
        ∧ (none' → exec .listenEnd s = .next (State.post { u with
            station.life := .waiting
            sender := ⟨[], none, s.sender.generator⟩ } .waiting)))
    ∧ (.waitingPick ∈ s.timer.due → s.station.life = .waiting →
        let u := taken .waitingPick
        (∀ n, lowest n → exec .waitingHomePick s = .next (claims u n))
        ∧ (none' → exec .waitingHomePick s = .next u))
    ∧ (.leaveTimeout ∈ s.timer.due → s.station.life = .leaving → s.station.leaveCount ≤ 1 →
        exec .leaveTimeout s = .next (s.offLink .timeout))

/-- A SENT position that reaches its deadline becomes retransmit-eligible, or at retries 6 in JOINED and LEAVING halts
its lane with RETRY, the lanes in ascending order: a lane waits while a deadline due would halt a lower one, be it that
lane's next or a later one (R141, R142; log entry 21). -/
def Obligations.DeadlineTaken : Prop :=
  ∀ (s : State) (l i : Nat) (payload : List Byte) (seq : Seq) (start : Bool) (retries : Nat), s.active →
    s.nextDeadline l = some seq → l < s.tx.lanes.length →
    let t := s.lane l
    t.positions[i]? = some ⟨payload, some seq, .sent start retries s.timer.cycle false⟩ →
    (∀ q ∈ t.positions.take i, ¬ (q.seq = some seq ∧ q.reached s.timer.cycle)) →
    let u := { s with timer.due := s.timer.due.erase (.deadline l seq) }
    let limit := 6 ≤ retries ∧ s.station.life ∈ [.joined, .leaving]
    let waits := ∃ k < l, (s.lane k).config ≠ none ∧ (s.lane k).halt = none
      ∧ ∃ q, .deadline k q ∈ s.timer.due ∧ ∃ p ∈ (s.lane k).positions, p.seq = some q ∧ p.reached s.timer.cycle ∧ p.spent
    (¬ limit → exec (.deadlineReached l) s = .next (u.setLane l { t with
        positions := t.positions.set i ⟨payload, some seq, .sent start retries s.timer.cycle true⟩ }))
    ∧ (limit → ¬ waits → t.config ≠ none → t.halt = none →
        exec (.deadlineReached l) s = .next ((u.setLane l { t with halt := some .retry }).post (.laneHalted l .retry)))
    ∧ (limit → t.halt ≠ none → exec (.deadlineReached l) s = .next u)
    ∧ (limit → waits → t.config ≠ none → t.halt = none → exec (.deadlineReached l) s = .next s)
end

