-- ==== Sys2Proof/Laws/State.lean ====
section
/-!
SUPPORT. The named updates of the state, field by field: what each leaves alone, and what a read finds after a write.
-/

namespace Sys2Proof.Machine

/-! ### What each update leaves -/

@[simp] theorem State.setEntry_line (s : State) (n : Nat) (e : Entry) : (s.setEntry n e).line = s.line := rfl
@[simp] theorem State.setEntry_timer (s : State) (n : Nat) (e : Entry) : (s.setEntry n e).timer = s.timer := rfl
@[simp] theorem State.setEntry_station (s : State) (n : Nat) (e : Entry) : (s.setEntry n e).station = s.station := rfl
@[simp] theorem State.setEntry_sender (s : State) (n : Nat) (e : Entry) : (s.setEntry n e).sender = s.sender := rfl
@[simp] theorem State.setEntry_peers (s : State) (n : Nat) (e : Entry) : (s.setEntry n e).peers = s.peers := rfl
@[simp] theorem State.setEntry_tx (s : State) (n : Nat) (e : Entry) : (s.setEntry n e).tx = s.tx := rfl
@[simp] theorem State.setEntry_delivery (s : State) (n : Nat) (e : Entry) : (s.setEntry n e).delivery = s.delivery := rfl
@[simp] theorem State.setEntry_rx (s : State) (n : Nat) (e : Entry) : (s.setEntry n e).rx = s.rx := rfl
@[simp] theorem State.setEntry_port (s : State) (n : Nat) (e : Entry) : (s.setEntry n e).port = s.port := rfl
@[simp] theorem State.setEntry_power (s : State) (n : Nat) (e : Entry) : (s.setEntry n e).power = s.power := rfl
@[simp] theorem State.setEntry_freeReads (s : State) (n : Nat) (e : Entry) : (s.setEntry n e).freeReads = s.freeReads := rfl
@[simp] theorem State.setEntry_pending (s : State) (n : Nat) (e : Entry) : (s.setEntry n e).pending = s.pending := rfl

@[simp] theorem State.stepEntry_line (s : State) (n : Nat) (f : Entry → Entry) : (s.stepEntry n f).line = s.line := rfl
@[simp] theorem State.stepEntry_timer (s : State) (n : Nat) (f : Entry → Entry) : (s.stepEntry n f).timer = s.timer := rfl
@[simp] theorem State.stepEntry_station (s : State) (n : Nat) (f : Entry → Entry) : (s.stepEntry n f).station = s.station := rfl
@[simp] theorem State.stepEntry_sender (s : State) (n : Nat) (f : Entry → Entry) : (s.stepEntry n f).sender = s.sender := rfl
@[simp] theorem State.stepEntry_peers (s : State) (n : Nat) (f : Entry → Entry) : (s.stepEntry n f).peers = s.peers := rfl
@[simp] theorem State.stepEntry_tx (s : State) (n : Nat) (f : Entry → Entry) : (s.stepEntry n f).tx = s.tx := rfl
@[simp] theorem State.stepEntry_delivery (s : State) (n : Nat) (f : Entry → Entry) : (s.stepEntry n f).delivery = s.delivery := rfl
@[simp] theorem State.stepEntry_rx (s : State) (n : Nat) (f : Entry → Entry) : (s.stepEntry n f).rx = s.rx := rfl
@[simp] theorem State.stepEntry_port (s : State) (n : Nat) (f : Entry → Entry) : (s.stepEntry n f).port = s.port := rfl
@[simp] theorem State.stepEntry_power (s : State) (n : Nat) (f : Entry → Entry) : (s.stepEntry n f).power = s.power := rfl
@[simp] theorem State.stepEntry_freeReads (s : State) (n : Nat) (f : Entry → Entry) : (s.stepEntry n f).freeReads = s.freeReads := rfl
@[simp] theorem State.stepEntry_pending (s : State) (n : Nat) (f : Entry → Entry) : (s.stepEntry n f).pending = s.pending := rfl

@[simp] theorem State.freeEntries_line (s : State) (p : Entry → Bool) : (s.freeEntries p).line = s.line := rfl
@[simp] theorem State.freeEntries_timer (s : State) (p : Entry → Bool) : (s.freeEntries p).timer = s.timer := rfl
@[simp] theorem State.freeEntries_station (s : State) (p : Entry → Bool) : (s.freeEntries p).station = s.station := rfl
@[simp] theorem State.freeEntries_sender (s : State) (p : Entry → Bool) : (s.freeEntries p).sender = s.sender := rfl
@[simp] theorem State.freeEntries_peers (s : State) (p : Entry → Bool) : (s.freeEntries p).peers = s.peers := rfl
@[simp] theorem State.freeEntries_tx (s : State) (p : Entry → Bool) : (s.freeEntries p).tx = s.tx := rfl
@[simp] theorem State.freeEntries_delivery (s : State) (p : Entry → Bool) : (s.freeEntries p).delivery = s.delivery := rfl
@[simp] theorem State.freeEntries_rx (s : State) (p : Entry → Bool) : (s.freeEntries p).rx = s.rx := rfl
@[simp] theorem State.freeEntries_port (s : State) (p : Entry → Bool) : (s.freeEntries p).port = s.port := rfl
@[simp] theorem State.freeEntries_power (s : State) (p : Entry → Bool) : (s.freeEntries p).power = s.power := rfl
@[simp] theorem State.freeEntries_freeReads (s : State) (p : Entry → Bool) : (s.freeEntries p).freeReads = s.freeReads := rfl
@[simp] theorem State.freeEntries_pending (s : State) (p : Entry → Bool) : (s.freeEntries p).pending = s.pending := rfl

@[simp] theorem State.setLane_line (s : State) (l : Nat) (t : TxLane) : (s.setLane l t).line = s.line := rfl
@[simp] theorem State.setLane_timer (s : State) (l : Nat) (t : TxLane) : (s.setLane l t).timer = s.timer := rfl
@[simp] theorem State.setLane_station (s : State) (l : Nat) (t : TxLane) : (s.setLane l t).station = s.station := rfl
@[simp] theorem State.setLane_sched (s : State) (l : Nat) (t : TxLane) : (s.setLane l t).sched = s.sched := rfl
@[simp] theorem State.setLane_sender (s : State) (l : Nat) (t : TxLane) : (s.setLane l t).sender = s.sender := rfl
@[simp] theorem State.setLane_peers (s : State) (l : Nat) (t : TxLane) : (s.setLane l t).peers = s.peers := rfl
@[simp] theorem State.setLane_delivery (s : State) (l : Nat) (t : TxLane) : (s.setLane l t).delivery = s.delivery := rfl
@[simp] theorem State.setLane_rx (s : State) (l : Nat) (t : TxLane) : (s.setLane l t).rx = s.rx := rfl
@[simp] theorem State.setLane_port (s : State) (l : Nat) (t : TxLane) : (s.setLane l t).port = s.port := rfl
@[simp] theorem State.setLane_power (s : State) (l : Nat) (t : TxLane) : (s.setLane l t).power = s.power := rfl
@[simp] theorem State.setLane_freeReads (s : State) (l : Nat) (t : TxLane) : (s.setLane l t).freeReads = s.freeReads := rfl
@[simp] theorem State.setLane_pending (s : State) (l : Nat) (t : TxLane) : (s.setLane l t).pending = s.pending := rfl

@[simp] theorem State.mapLanes_line (s : State) (f : TxLane → TxLane) : (s.mapLanes f).line = s.line := rfl
@[simp] theorem State.mapLanes_timer (s : State) (f : TxLane → TxLane) : (s.mapLanes f).timer = s.timer := rfl
@[simp] theorem State.mapLanes_station (s : State) (f : TxLane → TxLane) : (s.mapLanes f).station = s.station := rfl
@[simp] theorem State.mapLanes_sched (s : State) (f : TxLane → TxLane) : (s.mapLanes f).sched = s.sched := rfl
@[simp] theorem State.mapLanes_sender (s : State) (f : TxLane → TxLane) : (s.mapLanes f).sender = s.sender := rfl
@[simp] theorem State.mapLanes_peers (s : State) (f : TxLane → TxLane) : (s.mapLanes f).peers = s.peers := rfl
@[simp] theorem State.mapLanes_delivery (s : State) (f : TxLane → TxLane) : (s.mapLanes f).delivery = s.delivery := rfl
@[simp] theorem State.mapLanes_rx (s : State) (f : TxLane → TxLane) : (s.mapLanes f).rx = s.rx := rfl
@[simp] theorem State.mapLanes_port (s : State) (f : TxLane → TxLane) : (s.mapLanes f).port = s.port := rfl
@[simp] theorem State.mapLanes_power (s : State) (f : TxLane → TxLane) : (s.mapLanes f).power = s.power := rfl
@[simp] theorem State.mapLanes_freeReads (s : State) (f : TxLane → TxLane) : (s.mapLanes f).freeReads = s.freeReads := rfl
@[simp] theorem State.mapLanes_pending (s : State) (f : TxLane → TxLane) : (s.mapLanes f).pending = s.pending := rfl

@[simp] theorem State.busyStep_line (s : State) (l : Nat) : (s.busyStep l).line = s.line := rfl
@[simp] theorem State.busyStep_timer (s : State) (l : Nat) : (s.busyStep l).timer = s.timer := rfl
@[simp] theorem State.busyStep_station (s : State) (l : Nat) : (s.busyStep l).station = s.station := rfl
@[simp] theorem State.busyStep_sched (s : State) (l : Nat) : (s.busyStep l).sched = s.sched := rfl
@[simp] theorem State.busyStep_sender (s : State) (l : Nat) : (s.busyStep l).sender = s.sender := rfl
@[simp] theorem State.busyStep_peers (s : State) (l : Nat) : (s.busyStep l).peers = s.peers := rfl
@[simp] theorem State.busyStep_delivery (s : State) (l : Nat) : (s.busyStep l).delivery = s.delivery := rfl
@[simp] theorem State.busyStep_rx (s : State) (l : Nat) : (s.busyStep l).rx = s.rx := rfl
@[simp] theorem State.busyStep_port (s : State) (l : Nat) : (s.busyStep l).port = s.port := rfl
@[simp] theorem State.busyStep_power (s : State) (l : Nat) : (s.busyStep l).power = s.power := rfl
@[simp] theorem State.busyStep_freeReads (s : State) (l : Nat) : (s.busyStep l).freeReads = s.freeReads := rfl
@[simp] theorem State.busyStep_pending (s : State) (l : Nat) : (s.busyStep l).pending = s.pending := rfl

@[simp] theorem State.clearQueue_line (s : State) : s.clearQueue.line = s.line := rfl
@[simp] theorem State.clearQueue_timer (s : State) : s.clearQueue.timer = s.timer := rfl
@[simp] theorem State.clearQueue_station (s : State) : s.clearQueue.station = s.station := rfl
@[simp] theorem State.clearQueue_sched (s : State) : s.clearQueue.sched = s.sched := rfl
@[simp] theorem State.clearQueue_peers (s : State) : s.clearQueue.peers = s.peers := rfl
@[simp] theorem State.clearQueue_tx (s : State) : s.clearQueue.tx = s.tx := rfl
@[simp] theorem State.clearQueue_delivery (s : State) : s.clearQueue.delivery = s.delivery := rfl
@[simp] theorem State.clearQueue_rx (s : State) : s.clearQueue.rx = s.rx := rfl
@[simp] theorem State.clearQueue_port (s : State) : s.clearQueue.port = s.port := rfl
@[simp] theorem State.clearQueue_power (s : State) : s.clearQueue.power = s.power := rfl
@[simp] theorem State.clearQueue_freeReads (s : State) : s.clearQueue.freeReads = s.freeReads := rfl
@[simp] theorem State.clearQueue_pending (s : State) : s.clearQueue.pending = s.pending := rfl

@[simp] theorem State.setContext_line (s : State) (p c : Nat) (v : Option Seq) : (s.setContext p c v).line = s.line := rfl
@[simp] theorem State.setContext_timer (s : State) (p c : Nat) (v : Option Seq) : (s.setContext p c v).timer = s.timer := rfl
@[simp] theorem State.setContext_station (s : State) (p c : Nat) (v : Option Seq) : (s.setContext p c v).station = s.station := rfl
@[simp] theorem State.setContext_sched (s : State) (p c : Nat) (v : Option Seq) : (s.setContext p c v).sched = s.sched := rfl
@[simp] theorem State.setContext_sender (s : State) (p c : Nat) (v : Option Seq) : (s.setContext p c v).sender = s.sender := rfl
@[simp] theorem State.setContext_peers (s : State) (p c : Nat) (v : Option Seq) : (s.setContext p c v).peers = s.peers := rfl
@[simp] theorem State.setContext_tx (s : State) (p c : Nat) (v : Option Seq) : (s.setContext p c v).tx = s.tx := rfl
@[simp] theorem State.setContext_rx (s : State) (p c : Nat) (v : Option Seq) : (s.setContext p c v).rx = s.rx := rfl
@[simp] theorem State.setContext_port (s : State) (p c : Nat) (v : Option Seq) : (s.setContext p c v).port = s.port := rfl
@[simp] theorem State.setContext_power (s : State) (p c : Nat) (v : Option Seq) : (s.setContext p c v).power = s.power := rfl
@[simp] theorem State.setContext_freeReads (s : State) (p c : Nat) (v : Option Seq) : (s.setContext p c v).freeReads = s.freeReads := rfl
@[simp] theorem State.setContext_pending (s : State) (p c : Nat) (v : Option Seq) : (s.setContext p c v).pending = s.pending := rfl

@[simp] theorem State.owe_line (s : State) (p c : Nat) (e : Seq) (busy : Bool) : (s.owe p c e busy).line = s.line := rfl
@[simp] theorem State.owe_timer (s : State) (p c : Nat) (e : Seq) (busy : Bool) : (s.owe p c e busy).timer = s.timer := rfl
@[simp] theorem State.owe_station (s : State) (p c : Nat) (e : Seq) (busy : Bool) : (s.owe p c e busy).station = s.station := rfl
@[simp] theorem State.owe_sched (s : State) (p c : Nat) (e : Seq) (busy : Bool) : (s.owe p c e busy).sched = s.sched := rfl
@[simp] theorem State.owe_sender (s : State) (p c : Nat) (e : Seq) (busy : Bool) : (s.owe p c e busy).sender = s.sender := rfl
@[simp] theorem State.owe_peers (s : State) (p c : Nat) (e : Seq) (busy : Bool) : (s.owe p c e busy).peers = s.peers := rfl
@[simp] theorem State.owe_tx (s : State) (p c : Nat) (e : Seq) (busy : Bool) : (s.owe p c e busy).tx = s.tx := rfl
@[simp] theorem State.owe_rx (s : State) (p c : Nat) (e : Seq) (busy : Bool) : (s.owe p c e busy).rx = s.rx := rfl
@[simp] theorem State.owe_port (s : State) (p c : Nat) (e : Seq) (busy : Bool) : (s.owe p c e busy).port = s.port := rfl
@[simp] theorem State.owe_power (s : State) (p c : Nat) (e : Seq) (busy : Bool) : (s.owe p c e busy).power = s.power := rfl
@[simp] theorem State.owe_freeReads (s : State) (p c : Nat) (e : Seq) (busy : Bool) : (s.owe p c e busy).freeReads = s.freeReads := rfl
@[simp] theorem State.owe_pending (s : State) (p c : Nat) (e : Seq) (busy : Bool) : (s.owe p c e busy).pending = s.pending := rfl

@[simp] theorem State.deliver_line (s : State) (p c : Nat) (b : Bool) (payload : List Byte) : (s.deliver p c b payload).line = s.line := rfl
@[simp] theorem State.deliver_timer (s : State) (p c : Nat) (b : Bool) (payload : List Byte) : (s.deliver p c b payload).timer = s.timer := rfl
@[simp] theorem State.deliver_station (s : State) (p c : Nat) (b : Bool) (payload : List Byte) : (s.deliver p c b payload).station = s.station := rfl
@[simp] theorem State.deliver_sched (s : State) (p c : Nat) (b : Bool) (payload : List Byte) : (s.deliver p c b payload).sched = s.sched := rfl
@[simp] theorem State.deliver_sender (s : State) (p c : Nat) (b : Bool) (payload : List Byte) : (s.deliver p c b payload).sender = s.sender := rfl
@[simp] theorem State.deliver_peers (s : State) (p c : Nat) (b : Bool) (payload : List Byte) : (s.deliver p c b payload).peers = s.peers := rfl
@[simp] theorem State.deliver_tx (s : State) (p c : Nat) (b : Bool) (payload : List Byte) : (s.deliver p c b payload).tx = s.tx := rfl
@[simp] theorem State.deliver_delivery (s : State) (p c : Nat) (b : Bool) (payload : List Byte) : (s.deliver p c b payload).delivery = s.delivery := rfl
@[simp] theorem State.deliver_port (s : State) (p c : Nat) (b : Bool) (payload : List Byte) : (s.deliver p c b payload).port = s.port := rfl
@[simp] theorem State.deliver_power (s : State) (p c : Nat) (b : Bool) (payload : List Byte) : (s.deliver p c b payload).power = s.power := rfl
@[simp] theorem State.deliver_freeReads (s : State) (p c : Nat) (b : Bool) (payload : List Byte) : (s.deliver p c b payload).freeReads = s.freeReads := rfl
@[simp] theorem State.deliver_pending (s : State) (p c : Nat) (b : Bool) (payload : List Byte) : (s.deliver p c b payload).pending = s.pending := rfl

@[simp] theorem State.relearnStep_line (s : State) : s.relearnStep.line = s.line := rfl
@[simp] theorem State.relearnStep_station (s : State) : s.relearnStep.station = s.station := rfl
@[simp] theorem State.relearnStep_sched (s : State) : s.relearnStep.sched = s.sched := rfl
@[simp] theorem State.relearnStep_sender (s : State) : s.relearnStep.sender = s.sender := rfl
@[simp] theorem State.relearnStep_peers (s : State) : s.relearnStep.peers = s.peers := rfl
@[simp] theorem State.relearnStep_tx (s : State) : s.relearnStep.tx = s.tx := rfl
@[simp] theorem State.relearnStep_delivery (s : State) : s.relearnStep.delivery = s.delivery := rfl
@[simp] theorem State.relearnStep_rx (s : State) : s.relearnStep.rx = s.rx := rfl
@[simp] theorem State.relearnStep_port (s : State) : s.relearnStep.port = s.port := rfl
@[simp] theorem State.relearnStep_power (s : State) : s.relearnStep.power = s.power := rfl
@[simp] theorem State.relearnStep_freeReads (s : State) : s.relearnStep.freeReads = s.freeReads := rfl
@[simp] theorem State.relearnStep_pending (s : State) : s.relearnStep.pending = s.pending := rfl

@[simp] theorem State.markStart_line (s : State) : s.markStart.line = { s.line with atStart := none } := rfl
@[simp] theorem State.markStart_station (s : State) : s.markStart.station = s.station := rfl
@[simp] theorem State.markStart_sched (s : State) : s.markStart.sched = s.sched := rfl
@[simp] theorem State.markStart_sender (s : State) : s.markStart.sender = s.sender := rfl
@[simp] theorem State.markStart_peers (s : State) : s.markStart.peers = s.peers := rfl
@[simp] theorem State.markStart_tx (s : State) : s.markStart.tx = s.tx := rfl
@[simp] theorem State.markStart_delivery (s : State) : s.markStart.delivery = s.delivery := rfl
@[simp] theorem State.markStart_rx (s : State) : s.markStart.rx = s.rx := rfl
@[simp] theorem State.markStart_port (s : State) : s.markStart.port = s.port := rfl
@[simp] theorem State.markStart_power (s : State) : s.markStart.power = s.power := rfl
@[simp] theorem State.markStart_freeReads (s : State) : s.markStart.freeReads = s.freeReads := rfl
@[simp] theorem State.markStart_pending (s : State) : s.markStart.pending = s.pending := rfl

@[simp] theorem State.beginFrame_timer (s : State) (src : FrameSource) (body : FrameBody) : (s.beginFrame src body).timer = s.timer := rfl
@[simp] theorem State.beginFrame_station (s : State) (src : FrameSource) (body : FrameBody) : (s.beginFrame src body).station = s.station := rfl
@[simp] theorem State.beginFrame_sched (s : State) (src : FrameSource) (body : FrameBody) : (s.beginFrame src body).sched = s.sched := rfl
@[simp] theorem State.beginFrame_sender (s : State) (src : FrameSource) (body : FrameBody) : (s.beginFrame src body).sender = s.sender := rfl
@[simp] theorem State.beginFrame_peers (s : State) (src : FrameSource) (body : FrameBody) : (s.beginFrame src body).peers = s.peers := rfl
@[simp] theorem State.beginFrame_tx (s : State) (src : FrameSource) (body : FrameBody) : (s.beginFrame src body).tx = s.tx := rfl
@[simp] theorem State.beginFrame_delivery (s : State) (src : FrameSource) (body : FrameBody) : (s.beginFrame src body).delivery = s.delivery := rfl
@[simp] theorem State.beginFrame_rx (s : State) (src : FrameSource) (body : FrameBody) : (s.beginFrame src body).rx = s.rx := rfl
@[simp] theorem State.beginFrame_port (s : State) (src : FrameSource) (body : FrameBody) : (s.beginFrame src body).port = s.port := rfl
@[simp] theorem State.beginFrame_power (s : State) (src : FrameSource) (body : FrameBody) : (s.beginFrame src body).power = s.power := rfl
@[simp] theorem State.beginFrame_freeReads (s : State) (src : FrameSource) (body : FrameBody) : (s.beginFrame src body).freeReads = s.freeReads := rfl
@[simp] theorem State.beginFrame_pending (s : State) (src : FrameSource) (body : FrameBody) : (s.beginFrame src body).pending = s.pending := rfl

@[simp] theorem State.takeTiming_station (s : State) (h : Header) : (s.takeTiming h).station = s.station := rfl
@[simp] theorem State.takeTiming_sched (s : State) (h : Header) : (s.takeTiming h).sched = s.sched := rfl
@[simp] theorem State.takeTiming_sender (s : State) (h : Header) : (s.takeTiming h).sender = s.sender := rfl
@[simp] theorem State.takeTiming_peers (s : State) (h : Header) : (s.takeTiming h).peers = s.peers := rfl
@[simp] theorem State.takeTiming_tx (s : State) (h : Header) : (s.takeTiming h).tx = s.tx := rfl
@[simp] theorem State.takeTiming_delivery (s : State) (h : Header) : (s.takeTiming h).delivery = s.delivery := rfl
@[simp] theorem State.takeTiming_rx (s : State) (h : Header) : (s.takeTiming h).rx = s.rx := rfl
@[simp] theorem State.takeTiming_port (s : State) (h : Header) : (s.takeTiming h).port = s.port := rfl
@[simp] theorem State.takeTiming_power (s : State) (h : Header) : (s.takeTiming h).power = s.power := rfl
@[simp] theorem State.takeTiming_freeReads (s : State) (h : Header) : (s.takeTiming h).freeReads = s.freeReads := rfl
@[simp] theorem State.takeTiming_pending (s : State) (h : Header) : (s.takeTiming h).pending = s.pending := rfl

@[simp] theorem State.answered_line (c : Instr) (s : State) (st : Status) (data : List Byte) (e : Ending) : (s.answered c st data e).line = s.line := rfl
@[simp] theorem State.answered_timer (c : Instr) (s : State) (st : Status) (data : List Byte) (e : Ending) : (s.answered c st data e).timer = s.timer := rfl
@[simp] theorem State.answered_station (c : Instr) (s : State) (st : Status) (data : List Byte) (e : Ending) : (s.answered c st data e).station = s.station := rfl
@[simp] theorem State.answered_sched (c : Instr) (s : State) (st : Status) (data : List Byte) (e : Ending) : (s.answered c st data e).sched = s.sched := rfl
@[simp] theorem State.answered_sender (c : Instr) (s : State) (st : Status) (data : List Byte) (e : Ending) : (s.answered c st data e).sender = s.sender := rfl
@[simp] theorem State.answered_peers (c : Instr) (s : State) (st : Status) (data : List Byte) (e : Ending) : (s.answered c st data e).peers = s.peers := rfl
@[simp] theorem State.answered_tx (c : Instr) (s : State) (st : Status) (data : List Byte) (e : Ending) : (s.answered c st data e).tx = s.tx := rfl
@[simp] theorem State.answered_delivery (c : Instr) (s : State) (st : Status) (data : List Byte) (e : Ending) : (s.answered c st data e).delivery = s.delivery := rfl
@[simp] theorem State.answered_rx (c : Instr) (s : State) (st : Status) (data : List Byte) (e : Ending) : (s.answered c st data e).rx = s.rx := rfl
@[simp] theorem State.answered_power (c : Instr) (s : State) (st : Status) (data : List Byte) (e : Ending) : (s.answered c st data e).power = s.power := rfl
@[simp] theorem State.answered_freeReads (c : Instr) (s : State) (st : Status) (data : List Byte) (e : Ending) : (s.answered c st data e).freeReads = s.freeReads := rfl
@[simp] theorem State.answered_pending (c : Instr) (s : State) (st : Status) (data : List Byte) (e : Ending) : (s.answered c st data e).pending = s.pending := rfl

@[simp] theorem State.finishResponse_line (s : State) : s.finishResponse.line = s.line := rfl
@[simp] theorem State.finishResponse_timer (s : State) : s.finishResponse.timer = s.timer := rfl
@[simp] theorem State.finishResponse_station (s : State) : s.finishResponse.station = s.station := rfl
@[simp] theorem State.finishResponse_sched (s : State) : s.finishResponse.sched = s.sched := rfl
@[simp] theorem State.finishResponse_sender (s : State) : s.finishResponse.sender = s.sender := rfl
@[simp] theorem State.finishResponse_peers (s : State) : s.finishResponse.peers = s.peers := rfl
@[simp] theorem State.finishResponse_tx (s : State) : s.finishResponse.tx = s.tx := rfl
@[simp] theorem State.finishResponse_delivery (s : State) : s.finishResponse.delivery = s.delivery := rfl
@[simp] theorem State.finishResponse_rx (s : State) : s.finishResponse.rx = s.rx := rfl
@[simp] theorem State.finishResponse_power (s : State) : s.finishResponse.power = s.power := rfl
@[simp] theorem State.finishResponse_freeReads (s : State) : s.finishResponse.freeReads = s.freeReads := rfl
@[simp] theorem State.finishResponse_pending (s : State) : s.finishResponse.pending = s.pending := rfl

@[simp] theorem State.clearLink_tx (s : State) : s.clearLink.tx = s.tx := rfl
@[simp] theorem State.clearLink_port (s : State) : s.clearLink.port = s.port := rfl
@[simp] theorem State.clearLink_power (s : State) : s.clearLink.power = s.power := rfl
@[simp] theorem State.clearLink_freeReads (s : State) : s.clearLink.freeReads = s.freeReads := rfl
@[simp] theorem State.clearLink_pending (s : State) : s.clearLink.pending = s.pending := rfl

@[simp] theorem State.post_line (s : State) (e : Event) : (s.post e).line = s.line := by unfold State.post; split <;> rfl
@[simp] theorem State.post_timer (s : State) (e : Event) : (s.post e).timer = s.timer := by unfold State.post; split <;> rfl
@[simp] theorem State.post_station (s : State) (e : Event) : (s.post e).station = s.station := by unfold State.post; split <;> rfl
@[simp] theorem State.post_sched (s : State) (e : Event) : (s.post e).sched = s.sched := by unfold State.post; split <;> rfl
@[simp] theorem State.post_sender (s : State) (e : Event) : (s.post e).sender = s.sender := by unfold State.post; split <;> rfl
@[simp] theorem State.post_peers (s : State) (e : Event) : (s.post e).peers = s.peers := by unfold State.post; split <;> rfl
@[simp] theorem State.post_tx (s : State) (e : Event) : (s.post e).tx = s.tx := by unfold State.post; split <;> rfl
@[simp] theorem State.post_delivery (s : State) (e : Event) : (s.post e).delivery = s.delivery := by unfold State.post; split <;> rfl
@[simp] theorem State.post_rx (s : State) (e : Event) : (s.post e).rx = s.rx := by unfold State.post; split <;> rfl
@[simp] theorem State.post_power (s : State) (e : Event) : (s.post e).power = s.power := by unfold State.post; split <;> rfl
@[simp] theorem State.post_freeReads (s : State) (e : Event) : (s.post e).freeReads = s.freeReads := by unfold State.post; split <;> rfl
@[simp] theorem State.post_pending (s : State) (e : Event) : (s.post e).pending = s.pending := by unfold State.post; split <;> rfl

@[simp] theorem State.setPeer_line (s : State) (a : Nat) (r : Peer) : (s.setPeer a r).line = s.line := by unfold State.setPeer; split <;> rfl
@[simp] theorem State.setPeer_timer (s : State) (a : Nat) (r : Peer) : (s.setPeer a r).timer = s.timer := by unfold State.setPeer; split <;> rfl
@[simp] theorem State.setPeer_station (s : State) (a : Nat) (r : Peer) : (s.setPeer a r).station = s.station := by unfold State.setPeer; split <;> rfl
@[simp] theorem State.setPeer_sched (s : State) (a : Nat) (r : Peer) : (s.setPeer a r).sched = s.sched := by unfold State.setPeer; split <;> rfl
@[simp] theorem State.setPeer_sender (s : State) (a : Nat) (r : Peer) : (s.setPeer a r).sender = s.sender := by unfold State.setPeer; split <;> rfl
@[simp] theorem State.setPeer_tx (s : State) (a : Nat) (r : Peer) : (s.setPeer a r).tx = s.tx := by unfold State.setPeer; split <;> rfl
@[simp] theorem State.setPeer_delivery (s : State) (a : Nat) (r : Peer) : (s.setPeer a r).delivery = s.delivery := by unfold State.setPeer; split <;> rfl
@[simp] theorem State.setPeer_rx (s : State) (a : Nat) (r : Peer) : (s.setPeer a r).rx = s.rx := by unfold State.setPeer; split <;> rfl
@[simp] theorem State.setPeer_port (s : State) (a : Nat) (r : Peer) : (s.setPeer a r).port = s.port := by unfold State.setPeer; split <;> rfl
@[simp] theorem State.setPeer_power (s : State) (a : Nat) (r : Peer) : (s.setPeer a r).power = s.power := by unfold State.setPeer; split <;> rfl
@[simp] theorem State.setPeer_freeReads (s : State) (a : Nat) (r : Peer) : (s.setPeer a r).freeReads = s.freeReads := by unfold State.setPeer; split <;> rfl
@[simp] theorem State.setPeer_pending (s : State) (a : Nat) (r : Peer) : (s.setPeer a r).pending = s.pending := by unfold State.setPeer; split <;> rfl

@[simp] theorem State.removeEvent_line (s : State) : s.removeEvent.line = s.line := by simp only [State.removeEvent]; split <;> rfl
@[simp] theorem State.removeEvent_timer (s : State) : s.removeEvent.timer = s.timer := by simp only [State.removeEvent]; split <;> rfl
@[simp] theorem State.removeEvent_station (s : State) : s.removeEvent.station = s.station := by simp only [State.removeEvent]; split <;> rfl
@[simp] theorem State.removeEvent_sched (s : State) : s.removeEvent.sched = s.sched := by simp only [State.removeEvent]; split <;> rfl
@[simp] theorem State.removeEvent_sender (s : State) : s.removeEvent.sender = s.sender := by simp only [State.removeEvent]; split <;> rfl
@[simp] theorem State.removeEvent_peers (s : State) : s.removeEvent.peers = s.peers := by simp only [State.removeEvent]; split <;> rfl
@[simp] theorem State.removeEvent_tx (s : State) : s.removeEvent.tx = s.tx := by simp only [State.removeEvent]; split <;> rfl
@[simp] theorem State.removeEvent_delivery (s : State) : s.removeEvent.delivery = s.delivery := by simp only [State.removeEvent]; split <;> rfl
@[simp] theorem State.removeEvent_rx (s : State) : s.removeEvent.rx = s.rx := by simp only [State.removeEvent]; split <;> rfl
@[simp] theorem State.removeEvent_power (s : State) : s.removeEvent.power = s.power := by simp only [State.removeEvent]; split <;> rfl
@[simp] theorem State.removeEvent_freeReads (s : State) : s.removeEvent.freeReads = s.freeReads := by simp only [State.removeEvent]; split <;> rfl
@[simp] theorem State.removeEvent_pending (s : State) : s.removeEvent.pending = s.pending := by simp only [State.removeEvent]; split <;> rfl

@[simp] theorem State.newHead_line (s : State) : s.newHead.line = s.line := by unfold State.newHead; split <;> rfl
@[simp] theorem State.newHead_timer (s : State) : s.newHead.timer = s.timer := by unfold State.newHead; split <;> rfl
@[simp] theorem State.newHead_station (s : State) : s.newHead.station = s.station := by unfold State.newHead; split <;> rfl
@[simp] theorem State.newHead_sched (s : State) : s.newHead.sched = s.sched := by unfold State.newHead; split <;> rfl
@[simp] theorem State.newHead_peers (s : State) : s.newHead.peers = s.peers := by unfold State.newHead; split <;> rfl
@[simp] theorem State.newHead_tx (s : State) : s.newHead.tx = s.tx := by unfold State.newHead; split <;> rfl
@[simp] theorem State.newHead_delivery (s : State) : s.newHead.delivery = s.delivery := by unfold State.newHead; split <;> rfl
@[simp] theorem State.newHead_rx (s : State) : s.newHead.rx = s.rx := by unfold State.newHead; split <;> rfl
@[simp] theorem State.newHead_port (s : State) : s.newHead.port = s.port := by unfold State.newHead; split <;> rfl
@[simp] theorem State.newHead_power (s : State) : s.newHead.power = s.power := by unfold State.newHead; split <;> rfl
@[simp] theorem State.newHead_freeReads (s : State) : s.newHead.freeReads = s.freeReads := by unfold State.newHead; split <;> rfl
@[simp] theorem State.newHead_pending (s : State) : s.newHead.pending = s.pending := by unfold State.newHead; split <;> rfl

@[simp] theorem State.report_timer (s : State) (p : FrameSpan) (h : Bool) (x : Option Nat) : (s.report p h x).timer = s.timer := by unfold State.report; (repeat' split) <;> rfl
@[simp] theorem State.report_station (s : State) (p : FrameSpan) (h : Bool) (x : Option Nat) : (s.report p h x).station = s.station := by unfold State.report; (repeat' split) <;> rfl
@[simp] theorem State.report_sched (s : State) (p : FrameSpan) (h : Bool) (x : Option Nat) : (s.report p h x).sched = s.sched := by unfold State.report; (repeat' split) <;> rfl
@[simp] theorem State.report_sender (s : State) (p : FrameSpan) (h : Bool) (x : Option Nat) : (s.report p h x).sender = s.sender := by unfold State.report; (repeat' split) <;> rfl
@[simp] theorem State.report_peers (s : State) (p : FrameSpan) (h : Bool) (x : Option Nat) : (s.report p h x).peers = s.peers := by unfold State.report; (repeat' split) <;> rfl
@[simp] theorem State.report_tx (s : State) (p : FrameSpan) (h : Bool) (x : Option Nat) : (s.report p h x).tx = s.tx := by unfold State.report; (repeat' split) <;> rfl
@[simp] theorem State.report_delivery (s : State) (p : FrameSpan) (h : Bool) (x : Option Nat) : (s.report p h x).delivery = s.delivery := by unfold State.report; (repeat' split) <;> rfl
@[simp] theorem State.report_rx (s : State) (p : FrameSpan) (h : Bool) (x : Option Nat) : (s.report p h x).rx = s.rx := by unfold State.report; (repeat' split) <;> rfl
@[simp] theorem State.report_port (s : State) (p : FrameSpan) (h : Bool) (x : Option Nat) : (s.report p h x).port = s.port := by unfold State.report; (repeat' split) <;> rfl
@[simp] theorem State.report_power (s : State) (p : FrameSpan) (h : Bool) (x : Option Nat) : (s.report p h x).power = s.power := by unfold State.report; (repeat' split) <;> rfl
@[simp] theorem State.report_freeReads (s : State) (p : FrameSpan) (h : Bool) (x : Option Nat) : (s.report p h x).freeReads = s.freeReads := by unfold State.report; (repeat' split) <;> rfl
@[simp] theorem State.report_pending (s : State) (p : FrameSpan) (h : Bool) (x : Option Nat) : (s.report p h x).pending = s.pending := by unfold State.report; (repeat' split) <;> rfl

@[simp] theorem State.postAll_line (s : State) (es : List Event) : (s.postAll es).line = s.line := by
  unfold State.postAll
  induction es generalizing s with
  | nil => rfl
  | cons e es ih => simp [List.foldl_cons, ih]
@[simp] theorem State.postAll_timer (s : State) (es : List Event) : (s.postAll es).timer = s.timer := by
  unfold State.postAll
  induction es generalizing s with
  | nil => rfl
  | cons e es ih => simp [List.foldl_cons, ih]
@[simp] theorem State.postAll_station (s : State) (es : List Event) : (s.postAll es).station = s.station := by
  unfold State.postAll
  induction es generalizing s with
  | nil => rfl
  | cons e es ih => simp [List.foldl_cons, ih]
@[simp] theorem State.postAll_sched (s : State) (es : List Event) : (s.postAll es).sched = s.sched := by
  unfold State.postAll
  induction es generalizing s with
  | nil => rfl
  | cons e es ih => simp [List.foldl_cons, ih]
@[simp] theorem State.postAll_sender (s : State) (es : List Event) : (s.postAll es).sender = s.sender := by
  unfold State.postAll
  induction es generalizing s with
  | nil => rfl
  | cons e es ih => simp [List.foldl_cons, ih]
@[simp] theorem State.postAll_peers (s : State) (es : List Event) : (s.postAll es).peers = s.peers := by
  unfold State.postAll
  induction es generalizing s with
  | nil => rfl
  | cons e es ih => simp [List.foldl_cons, ih]
@[simp] theorem State.postAll_tx (s : State) (es : List Event) : (s.postAll es).tx = s.tx := by
  unfold State.postAll
  induction es generalizing s with
  | nil => rfl
  | cons e es ih => simp [List.foldl_cons, ih]
@[simp] theorem State.postAll_delivery (s : State) (es : List Event) : (s.postAll es).delivery = s.delivery := by
  unfold State.postAll
  induction es generalizing s with
  | nil => rfl
  | cons e es ih => simp [List.foldl_cons, ih]
@[simp] theorem State.postAll_rx (s : State) (es : List Event) : (s.postAll es).rx = s.rx := by
  unfold State.postAll
  induction es generalizing s with
  | nil => rfl
  | cons e es ih => simp [List.foldl_cons, ih]
@[simp] theorem State.postAll_power (s : State) (es : List Event) : (s.postAll es).power = s.power := by
  unfold State.postAll
  induction es generalizing s with
  | nil => rfl
  | cons e es ih => simp [List.foldl_cons, ih]
@[simp] theorem State.postAll_freeReads (s : State) (es : List Event) : (s.postAll es).freeReads = s.freeReads := by
  unfold State.postAll
  induction es generalizing s with
  | nil => rfl
  | cons e es ih => simp [List.foldl_cons, ih]
@[simp] theorem State.postAll_pending (s : State) (es : List Event) : (s.postAll es).pending = s.pending := by
  unfold State.postAll
  induction es generalizing s with
  | nil => rfl
  | cons e es ih => simp [List.foldl_cons, ih]

@[simp] theorem State.appendControl_line (s : State) (f : CtlFrame) : (s.appendControl f).line = s.line := by
  simp only [State.appendControl]; split <;> simp
@[simp] theorem State.appendControl_timer (s : State) (f : CtlFrame) : (s.appendControl f).timer = s.timer := by
  simp only [State.appendControl]; split <;> simp
@[simp] theorem State.appendControl_station (s : State) (f : CtlFrame) : (s.appendControl f).station = s.station := by
  simp only [State.appendControl]; split <;> simp
@[simp] theorem State.appendControl_sched (s : State) (f : CtlFrame) : (s.appendControl f).sched = s.sched := by
  simp only [State.appendControl]; split <;> simp
@[simp] theorem State.appendControl_peers (s : State) (f : CtlFrame) : (s.appendControl f).peers = s.peers := by
  simp only [State.appendControl]; split <;> simp
@[simp] theorem State.appendControl_tx (s : State) (f : CtlFrame) : (s.appendControl f).tx = s.tx := by
  simp only [State.appendControl]; split <;> simp
@[simp] theorem State.appendControl_delivery (s : State) (f : CtlFrame) : (s.appendControl f).delivery = s.delivery := by
  simp only [State.appendControl]; split <;> simp
@[simp] theorem State.appendControl_rx (s : State) (f : CtlFrame) : (s.appendControl f).rx = s.rx := by
  simp only [State.appendControl]; split <;> simp
@[simp] theorem State.appendControl_port (s : State) (f : CtlFrame) : (s.appendControl f).port = s.port := by
  simp only [State.appendControl]; split <;> simp
@[simp] theorem State.appendControl_power (s : State) (f : CtlFrame) : (s.appendControl f).power = s.power := by
  simp only [State.appendControl]; split <;> simp
@[simp] theorem State.appendControl_freeReads (s : State) (f : CtlFrame) : (s.appendControl f).freeReads = s.freeReads := by
  simp only [State.appendControl]; split <;> simp
@[simp] theorem State.appendControl_pending (s : State) (f : CtlFrame) : (s.appendControl f).pending = s.pending := by
  simp only [State.appendControl]; split <;> simp

@[simp] theorem State.dropHead_line (s : State) : s.dropHead.line = s.line := by simp [State.dropHead]
@[simp] theorem State.dropHead_timer (s : State) : s.dropHead.timer = s.timer := by simp [State.dropHead]
@[simp] theorem State.dropHead_station (s : State) : s.dropHead.station = s.station := by simp [State.dropHead]
@[simp] theorem State.dropHead_sched (s : State) : s.dropHead.sched = s.sched := by simp [State.dropHead]
@[simp] theorem State.dropHead_peers (s : State) : s.dropHead.peers = s.peers := by simp [State.dropHead]
@[simp] theorem State.dropHead_tx (s : State) : s.dropHead.tx = s.tx := by simp [State.dropHead]
@[simp] theorem State.dropHead_delivery (s : State) : s.dropHead.delivery = s.delivery := by simp [State.dropHead]
@[simp] theorem State.dropHead_rx (s : State) : s.dropHead.rx = s.rx := by simp [State.dropHead]
@[simp] theorem State.dropHead_port (s : State) : s.dropHead.port = s.port := by simp [State.dropHead]
@[simp] theorem State.dropHead_power (s : State) : s.dropHead.power = s.power := by simp [State.dropHead]
@[simp] theorem State.dropHead_freeReads (s : State) : s.dropHead.freeReads = s.freeReads := by simp [State.dropHead]
@[simp] theorem State.dropHead_pending (s : State) : s.dropHead.pending = s.pending := by simp [State.dropHead]

@[simp] theorem State.dropClaim_line (s : State) : s.dropClaim.line = s.line := by
  unfold State.dropClaim; split <;> (try split) <;> simp
@[simp] theorem State.dropClaim_timer (s : State) : s.dropClaim.timer = s.timer := by
  unfold State.dropClaim; split <;> (try split) <;> simp
@[simp] theorem State.dropClaim_station (s : State) : s.dropClaim.station = s.station := by
  unfold State.dropClaim; split <;> (try split) <;> simp
@[simp] theorem State.dropClaim_sched (s : State) : s.dropClaim.sched = s.sched := by
  unfold State.dropClaim; split <;> (try split) <;> simp
@[simp] theorem State.dropClaim_peers (s : State) : s.dropClaim.peers = s.peers := by
  unfold State.dropClaim; split <;> (try split) <;> simp
@[simp] theorem State.dropClaim_tx (s : State) : s.dropClaim.tx = s.tx := by
  unfold State.dropClaim; split <;> (try split) <;> simp
@[simp] theorem State.dropClaim_delivery (s : State) : s.dropClaim.delivery = s.delivery := by
  unfold State.dropClaim; split <;> (try split) <;> simp
@[simp] theorem State.dropClaim_rx (s : State) : s.dropClaim.rx = s.rx := by
  unfold State.dropClaim; split <;> (try split) <;> simp
@[simp] theorem State.dropClaim_port (s : State) : s.dropClaim.port = s.port := by
  unfold State.dropClaim; split <;> (try split) <;> simp
@[simp] theorem State.dropClaim_power (s : State) : s.dropClaim.power = s.power := by
  unfold State.dropClaim; split <;> (try split) <;> simp
@[simp] theorem State.dropClaim_freeReads (s : State) : s.dropClaim.freeReads = s.freeReads := by
  unfold State.dropClaim; split <;> (try split) <;> simp
@[simp] theorem State.dropClaim_pending (s : State) : s.dropClaim.pending = s.pending := by
  unfold State.dropClaim; split <;> (try split) <;> simp

@[simp] theorem State.editClaim_line (s : State) (n : Nat) : (s.editClaim n).line = s.line := by
  simp only [State.editClaim]; split <;> simp
@[simp] theorem State.editClaim_timer (s : State) (n : Nat) : (s.editClaim n).timer = s.timer := by
  simp only [State.editClaim]; split <;> simp
@[simp] theorem State.editClaim_station (s : State) (n : Nat) : (s.editClaim n).station = s.station := by
  simp only [State.editClaim]; split <;> simp
@[simp] theorem State.editClaim_sched (s : State) (n : Nat) : (s.editClaim n).sched = s.sched := by
  simp only [State.editClaim]; split <;> simp
@[simp] theorem State.editClaim_peers (s : State) (n : Nat) : (s.editClaim n).peers = s.peers := by
  simp only [State.editClaim]; split <;> simp
@[simp] theorem State.editClaim_tx (s : State) (n : Nat) : (s.editClaim n).tx = s.tx := by
  simp only [State.editClaim]; split <;> simp
@[simp] theorem State.editClaim_delivery (s : State) (n : Nat) : (s.editClaim n).delivery = s.delivery := by
  simp only [State.editClaim]; split <;> simp
@[simp] theorem State.editClaim_rx (s : State) (n : Nat) : (s.editClaim n).rx = s.rx := by
  simp only [State.editClaim]; split <;> simp
@[simp] theorem State.editClaim_port (s : State) (n : Nat) : (s.editClaim n).port = s.port := by
  simp only [State.editClaim]; split <;> simp
@[simp] theorem State.editClaim_power (s : State) (n : Nat) : (s.editClaim n).power = s.power := by
  simp only [State.editClaim]; split <;> simp
@[simp] theorem State.editClaim_freeReads (s : State) (n : Nat) : (s.editClaim n).freeReads = s.freeReads := by
  simp only [State.editClaim]; split <;> simp
@[simp] theorem State.editClaim_pending (s : State) (n : Nat) : (s.editClaim n).pending = s.pending := by
  simp only [State.editClaim]; split <;> simp

@[simp] theorem State.placeRelease_line (s : State) (slots : List Nat) : (s.placeRelease slots).line = s.line := by
  unfold State.placeRelease; split <;> (try split) <;> simp
@[simp] theorem State.placeRelease_timer (s : State) (slots : List Nat) : (s.placeRelease slots).timer = s.timer := by
  unfold State.placeRelease; split <;> (try split) <;> simp
@[simp] theorem State.placeRelease_station (s : State) (slots : List Nat) : (s.placeRelease slots).station = s.station := by
  unfold State.placeRelease; split <;> (try split) <;> simp
@[simp] theorem State.placeRelease_sched (s : State) (slots : List Nat) : (s.placeRelease slots).sched = s.sched := by
  unfold State.placeRelease; split <;> (try split) <;> simp
@[simp] theorem State.placeRelease_peers (s : State) (slots : List Nat) : (s.placeRelease slots).peers = s.peers := by
  unfold State.placeRelease; split <;> (try split) <;> simp
@[simp] theorem State.placeRelease_tx (s : State) (slots : List Nat) : (s.placeRelease slots).tx = s.tx := by
  unfold State.placeRelease; split <;> (try split) <;> simp
@[simp] theorem State.placeRelease_delivery (s : State) (slots : List Nat) : (s.placeRelease slots).delivery = s.delivery := by
  unfold State.placeRelease; split <;> (try split) <;> simp
@[simp] theorem State.placeRelease_rx (s : State) (slots : List Nat) : (s.placeRelease slots).rx = s.rx := by
  unfold State.placeRelease; split <;> (try split) <;> simp
@[simp] theorem State.placeRelease_port (s : State) (slots : List Nat) : (s.placeRelease slots).port = s.port := by
  unfold State.placeRelease; split <;> (try split) <;> simp
@[simp] theorem State.placeRelease_power (s : State) (slots : List Nat) : (s.placeRelease slots).power = s.power := by
  unfold State.placeRelease; split <;> (try split) <;> simp
@[simp] theorem State.placeRelease_freeReads (s : State) (slots : List Nat) : (s.placeRelease slots).freeReads = s.freeReads := by
  unfold State.placeRelease; split <;> (try split) <;> simp
@[simp] theorem State.placeRelease_pending (s : State) (slots : List Nat) : (s.placeRelease slots).pending = s.pending := by
  unfold State.placeRelease; split <;> (try split) <;> simp

@[simp] theorem State.haltLane_line (s : State) (l : Nat) (r : HaltReason) : (s.haltLane l r).line = s.line := by
  unfold State.haltLane; split <;> simp
@[simp] theorem State.haltLane_timer (s : State) (l : Nat) (r : HaltReason) : (s.haltLane l r).timer = s.timer := by
  unfold State.haltLane; split <;> simp
@[simp] theorem State.haltLane_station (s : State) (l : Nat) (r : HaltReason) : (s.haltLane l r).station = s.station := by
  unfold State.haltLane; split <;> simp
@[simp] theorem State.haltLane_sched (s : State) (l : Nat) (r : HaltReason) : (s.haltLane l r).sched = s.sched := by
  unfold State.haltLane; split <;> simp
@[simp] theorem State.haltLane_sender (s : State) (l : Nat) (r : HaltReason) : (s.haltLane l r).sender = s.sender := by
  unfold State.haltLane; split <;> simp
@[simp] theorem State.haltLane_peers (s : State) (l : Nat) (r : HaltReason) : (s.haltLane l r).peers = s.peers := by
  unfold State.haltLane; split <;> simp
@[simp] theorem State.haltLane_delivery (s : State) (l : Nat) (r : HaltReason) : (s.haltLane l r).delivery = s.delivery := by
  unfold State.haltLane; split <;> simp
@[simp] theorem State.haltLane_rx (s : State) (l : Nat) (r : HaltReason) : (s.haltLane l r).rx = s.rx := by
  unfold State.haltLane; split <;> simp
@[simp] theorem State.haltLane_power (s : State) (l : Nat) (r : HaltReason) : (s.haltLane l r).power = s.power := by
  unfold State.haltLane; split <;> simp
@[simp] theorem State.haltLane_freeReads (s : State) (l : Nat) (r : HaltReason) : (s.haltLane l r).freeReads = s.freeReads := by
  unfold State.haltLane; split <;> simp
@[simp] theorem State.haltLane_pending (s : State) (l : Nat) (r : HaltReason) : (s.haltLane l r).pending = s.pending := by
  unfold State.haltLane; split <;> simp

@[simp] theorem State.endClaim_line (s : State) : s.endClaim.line = s.line := by unfold State.endClaim; split <;> simp
@[simp] theorem State.endClaim_timer (s : State) : s.endClaim.timer = s.timer := by unfold State.endClaim; split <;> simp
@[simp] theorem State.endClaim_station (s : State) : s.endClaim.station = s.station := by unfold State.endClaim; split <;> simp
@[simp] theorem State.endClaim_sender (s : State) : s.endClaim.sender = s.sender := by unfold State.endClaim; split <;> simp
@[simp] theorem State.endClaim_peers (s : State) : s.endClaim.peers = s.peers := by unfold State.endClaim; split <;> simp
@[simp] theorem State.endClaim_tx (s : State) : s.endClaim.tx = s.tx := by unfold State.endClaim; split <;> simp
@[simp] theorem State.endClaim_delivery (s : State) : s.endClaim.delivery = s.delivery := by unfold State.endClaim; split <;> simp
@[simp] theorem State.endClaim_rx (s : State) : s.endClaim.rx = s.rx := by unfold State.endClaim; split <;> simp
@[simp] theorem State.endClaim_power (s : State) : s.endClaim.power = s.power := by unfold State.endClaim; split <;> simp
@[simp] theorem State.endClaim_freeReads (s : State) : s.endClaim.freeReads = s.freeReads := by unfold State.endClaim; split <;> simp
@[simp] theorem State.endClaim_pending (s : State) : s.endClaim.pending = s.pending := by unfold State.endClaim; split <;> simp

/-! ### Reads after writes -/

/-- An entry read back after a write, at the same slot and at any other. -/
theorem State.entry_setEntry (s : State) (n m : Nat) (e : Entry) :
    (s.setEntry n e).entry m = if m = n ∧ n < s.sched.slots.length then e else s.entry m := by
  by_cases h : m = n
  · subst h; by_cases h2 : m < s.sched.slots.length <;> simp [State.entry, State.setEntry, h2]
  · have h' : ¬ n = m := fun q => h q.symm
    simp [State.entry, State.setEntry, h, h', List.getElem?_set_ne]

@[simp] theorem State.entry_setEntry_ne (s : State) {n m : Nat} (e : Entry) (h : m ≠ n) :
    (s.setEntry n e).entry m = s.entry m := by simp [State.entry_setEntry, h]

/-- A lane read back after a write, at the same number and at any other. -/
theorem State.lane_setLane (s : State) (l m : Nat) (t : TxLane) :
    (s.setLane l t).lane m = if m = l ∧ l < s.tx.lanes.length then t else s.lane m := by
  by_cases h : m = l
  · subst h; by_cases h2 : m < s.tx.lanes.length <;> simp [State.lane, State.setLane, h2]
  · have h' : ¬ l = m := fun q => h q.symm
    simp [State.lane, State.setLane, h, h', List.getElem?_set_ne]

@[simp] theorem State.lane_setLane_ne (s : State) {l m : Nat} (t : TxLane) (h : m ≠ l) :
    (s.setLane l t).lane m = s.lane m := by simp [State.lane_setLane, h]

/-- A peer record read back after a write, at the same address and at any other. -/
theorem State.peer_setPeer (s : State) {a b : Nat} (r : Peer) (ha : 1 ≤ a) (hb : 1 ≤ b) :
    (s.setPeer a r).peer b = if b = a ∧ a - 1 < s.peers.length then r else s.peer b := by
  by_cases h : b = a
  · subst h; by_cases h2 : b - 1 < s.peers.length <;> simp [State.peer, State.setPeer, ha, h2]
  · have h' : ¬ a - 1 = b - 1 := by omega
    simp [State.peer, State.setPeer, ha, h, List.getElem?_set_ne h']

@[simp] theorem State.slots_setEntry_length (s : State) (n : Nat) (e : Entry) :
    (s.setEntry n e).sched.slots.length = s.sched.slots.length := by simp [State.setEntry]

@[simp] theorem State.slots_freeEntries_length (s : State) (p : Entry → Bool) :
    (s.freeEntries p).sched.slots.length = s.sched.slots.length := by simp [State.freeEntries]

@[simp] theorem State.lanes_setLane_length (s : State) (l : Nat) (t : TxLane) :
    (s.setLane l t).tx.lanes.length = s.tx.lanes.length := by simp [State.setLane]

@[simp] theorem State.peers_setPeer_length (s : State) (a : Nat) (r : Peer) :
    (s.setPeer a r).peers.length = s.peers.length := by unfold State.setPeer; split <;> simp

/-- An entry after the entries that pass a test were freed. -/
theorem State.entry_freeEntries (s : State) (p : Entry → Bool) (n : Nat) :
    (s.freeEntries p).entry n = (s.entry n).freeIf p := by
  by_cases h : n < s.sched.slots.length
  · simp [State.entry, State.freeEntries, h]
  · simp [State.entry, State.freeEntries, h, Entry.freeIf]

/-- An entry that is read lies in the table, or is FREE. -/
theorem State.entry_mem (s : State) (n : Nat) : s.entry n ∈ s.sched.slots ∨ s.entry n = .free := by
  by_cases h : n < s.sched.slots.length
  · left; simp [State.entry, h]
  · right; simp [State.entry, h]

/-- A lane that is read lies in the list, or is a disabled one. -/
theorem State.lane_mem (s : State) (l : Nat) : s.lane l ∈ s.tx.lanes ∨ s.lane l = ⟨none, none, [], 0, false, 0, 0⟩ := by
  by_cases h : l < s.tx.lanes.length
  · left; simp [State.lane, h]
  · right; simp [State.lane, h]

end Sys2Proof.Machine
end

