-- ==== Sys2Proof/Laws/Ops.lean ====
section
/-!
SUPPORT. What each shared operation can do, said once, so that no proof about a command unfolds it.
-/

namespace Sys2Proof.Machine

/-! ### Transactions -/

/-- While the station is held in reset no command is taken. -/
theorem State.take_held {s : State} (h : s.held = true) (c : Instr) (f : State → State × Reply) : s.take c f = s := by
  simp [State.take, h]

/-- A rise of chip select where no RESET waits ends the transaction. -/
theorem State.endTransaction_ready {s : State} (h : s.resetWaits = false) :
    s.endTransaction = { s with port.transaction := none } := by
  unfold State.resetWaits at h
  unfold State.endTransaction
  split <;> simp_all

/-- A rise of chip select where a RESET waits makes it act. -/
theorem State.endTransaction_reset {s : State} (h : s.resetWaits = true) : s.endTransaction = s.resetAct := by
  unfold State.resetWaits at h
  unfold State.endTransaction
  split <;> simp_all

/-- A command taken on a ready port leaves its effect and its answer. -/
theorem State.take_ready {s : State} (h : s.PortReady) (c : Instr) (f : State → State × Reply) :
    s.take c f =
      let r := f { s with port.transaction := none }
      r.1.answered c r.2.status r.2.data r.2.ending := by
  simp [State.take, h.1, State.endTransaction_ready h.2, State.answered]

/-- The same for a command whose effect and reply are known. -/
theorem State.take_of_reply {s t : State} (h : s.PortReady) {c : Instr} {f : State → State × Reply} {r : Reply}
    (hf : f { s with port.transaction := none } = (t, r)) : s.take c f = t.answered c r.status r.data r.ending := by
  rw [State.take_ready h, hf]

/-- A command refused on a ready port leaves the state with the status as its answer. -/
theorem State.take_refused {s : State} (h : s.PortReady) {c : Instr} {f : State → State × Reply} {st : Status}
    (hf : f { s with port.transaction := none } = State.refuse { s with port.transaction := none } st) :
    s.take c f = s.answered c st := by
  rw [State.take_of_reply h hf]; rfl

/-- What MISO reads in the transaction of an answered command: 00h, then status and data, then 00h (R156). -/
theorem State.miso_answered {s : State} (h : s.held = false) (c : Instr) (st : Status) (data : List Byte) (e : Ending)
    (k : Nat) :
    (s.answered c st data e).miso k = some
      (if k < c.transactionBytes.length then 0 else (st.byte :: data).getD (k - c.transactionBytes.length) 0) := by
  have h' : (s.answered c st data e).held = false := h
  rw [State.miso, h']
  rfl

/-! ### The event queue -/

/-- Either the record takes the tail or the lost count goes up. -/
theorem State.post_cases (s : State) (e : Event) :
    (s.port.events.length < 16 ∧ (s.post e).port = { s.port with events := s.port.events ++ [⟨e, s.timer.cycle⟩] })
    ∨ (16 ≤ s.port.events.length ∧ (s.post e).port = { s.port with lost := min (s.port.lost + 1) 255 }) := by
  unfold State.post
  split
  · exact .inl ⟨‹_›, rfl⟩
  · exact .inr ⟨by omega, rfl⟩

/-- A post keeps the queue within its capacity and the lost count within its range. -/
theorem State.post_inRange {s : State} (e : Event) (h : s.port.InRange) : (s.post e).port.InRange := by
  obtain ⟨h1, h2, h3⟩ := h
  obtain ⟨hl, hp⟩ | ⟨hl, hp⟩ := s.post_cases e <;> rw [hp]
  · refine ⟨by simp; omega, by simpa using h2, fun h => ?_⟩
    have := h3 h
    omega
  · refine ⟨by simpa using h1, by simp, fun _ => ?_⟩
    simp; omega

/-- So do several posts. -/
theorem State.postAll_inRange {s : State} (es : List Event) (h : s.port.InRange) : (s.postAll es).port.InRange := by
  unfold State.postAll
  induction es generalizing s with
  | nil => exact h
  | cons e es ih => exact ih (State.post_inRange e h)

/-- A post reads the cycle number and writes the port alone. -/
theorem State.post_with_port {s t : State} (e : Event) (hc : t.timer.cycle = s.timer.cycle) (hp : t.port = s.port) :
    t.post e = { t with port := (s.post e).port } := by
  unfold State.post
  rw [hp, hc]
  split <;> simp_all

/-! ### Entries -/

/-- A freed entry is FREE or as it was. -/
theorem Entry.freeIf_cases (p : Entry → Bool) (e : Entry) :
    (p e = true ∧ e.freeIf p = .free) ∨ (p e = false ∧ e.freeIf p = e) := by
  unfold Entry.freeIf
  cases p e <;> simp

/-- The slots that pass a test are those of the table whose entry does. -/
theorem State.mem_slotsWhere (s : State) (p : Entry → Bool) (n : Nat) :
    n ∈ s.slotsWhere p ↔ n < s.sched.slots.length ∧ p (s.entry n) = true := by
  simp [State.slotsWhere]

/-- They are listed in ascending order. -/
theorem State.slotsWhere_sorted (s : State) (p : Entry → Bool) : (s.slotsWhere p).Pairwise (· < ·) :=
  List.Pairwise.filter _ List.pairwise_lt_range

/-- They are as many as the entries that pass it. -/
theorem State.slotsWhere_length (s : State) (p : Entry → Bool) :
    (s.slotsWhere p).length = s.sched.slots.countP p := by
  unfold State.slotsWhere State.entry
  generalize s.sched.slots = l
  rw [← List.countP_eq_length_filter]
  induction l using List.reverseRecOn with
  | nil => rfl
  | append_singleton l a ih =>
    simp only [List.length_append, List.length_singleton, List.range_succ, List.countP_append, List.countP_singleton]
    rw [← ih]
    congr 1
    · apply List.countP_congr
      intro x hx
      simp at hx
      simp [List.getD, List.getElem?_append, hx]
    · simp [List.getD]

/-- The same entry written at every slot of a list. -/
theorem State.foldl_setEntry (l : List Nat) (s : State) (e : Entry) :
    l.foldl (fun s k => s.setEntry k e) s =
      { s with sched.slots := s.sched.slots.mapIdx fun k x => if k ∈ l then e else x } := by
  induction l generalizing s with
  | nil => simp [List.mapIdx_eq_ofFn]
  | cons a l ih =>
    rw [List.foldl_cons, ih]
    simp only [State.setEntry]
    congr 2
    apply List.ext_getElem
    · simp
    · intro i h1 h2
      by_cases hm : i ∈ l <;> by_cases h3 : i = a <;> simp [hm, h3, List.getElem_set]
      intro q
      exact absurd q.symm h3

/-! ### The control queue -/

/-- The head leaves and the next frame draws. -/
theorem State.dropHead_sender (s : State) : s.dropHead.sender = s.withoutHead := by
  unfold State.dropHead State.newHead State.withoutHead State.nextGenerator
  cases s.sender.queue.tail <;> simp

/-- An appended frame draws where it is the head. -/
theorem State.appendControl_sender (s : State) (f : CtlFrame) : (s.appendControl f).sender = s.withFrame f := by
  unfold State.appendControl State.withFrame State.newHead State.nextGenerator
  cases h : s.sender.queue <;> simp

/-- A new head has the attempt state of R83, whatever stood there. -/
theorem State.newHead_inRange (s : State) (hq : s.sender.queue.length ≤ 4) (hg : s.sender.generator < 64) :
    s.newHead.sender.InRange := by
  unfold State.newHead State.nextGenerator
  cases h : s.sender.queue with
  | nil => refine ⟨by simp [h], by simp [h], by simp, hg⟩
  | cons f fs =>
    refine ⟨by simpa [h] using hq, by simp [h], ?_, Nat.mod_lt _ (by omega)⟩
    simp
    omega

/-- A slot put into a list is in it, with those that were. -/
theorem mem_insertSlot (n m : Nat) (l : List Nat) : m ∈ insertSlot n l ↔ m = n ∨ m ∈ l := by
  induction l with
  | nil => simp [insertSlot]
  | cons a l ih =>
    unfold insertSlot
    split
    · simp
    · split
      · subst n; simp
      · simp [ih]; tauto

/-- A slot put into an ascending list leaves it ascending, each once. -/
theorem insertSlot_sorted (n : Nat) (l : List Nat) (h : l.Pairwise (· < ·)) : (insertSlot n l).Pairwise (· < ·) := by
  induction l with
  | nil => simp [insertSlot]
  | cons a l ih =>
    rw [List.pairwise_cons] at h
    unfold insertSlot
    split
    · refine List.Pairwise.cons (fun b hb => ?_) (List.pairwise_cons.2 h)
      rcases List.mem_cons.1 hb with rfl | hb
      · assumption
      · exact Nat.lt_trans ‹_› (h.1 b hb)
    · split
      · exact List.pairwise_cons.2 h
      · refine List.Pairwise.cons (fun b hb => ?_) (ih h.2)
        rcases (mem_insertSlot n b l).1 hb with rfl | hb
        · omega
        · exact h.1 b hb

/-- A list takes at most one place more. -/
theorem insertSlot_length (n : Nat) (l : List Nat) :
    l.length ≤ (insertSlot n l).length ∧ (insertSlot n l).length ≤ l.length + 1 := by
  induction l with
  | nil => simp [insertSlot]
  | cons a l ih =>
    unfold insertSlot
    split
    · simp
    · split
      · simp
      · simp; omega

/-- A release joins a RELEASE frame with room, goes out in a frame of its own, or is dropped at a full queue. -/
theorem State.placeRelease_cases (s : State) (slots : List Nat) :
    (∃ i, mergePlace s.headOnLine s.sender.queue slots = some i ∧ s.placeRelease slots = { s with
      sender.queue := s.sender.queue.modify i fun f =>
        { f with slots := slots.foldl (fun l n => insertSlot n l) f.slots } })
    ∨ (s.sender.queue.length < 4 ∧ s.placeRelease slots = { s with sender := s.withFrame ⟨.release, slots⟩ })
    ∨ (4 ≤ s.sender.queue.length ∧ s.placeRelease slots = s) := by
  unfold State.placeRelease
  split
  · exact .inl ⟨_, ‹_›, rfl⟩
  · by_cases h : s.sender.queue.length < 4
    · refine .inr (.inl ⟨h, ?_⟩)
      rw [if_pos h, ← State.appendControl_sender]
      unfold State.appendControl State.newHead
      cases hq : s.sender.queue <;> simp
    · exact .inr (.inr ⟨by omega, by rw [if_neg h]⟩)

/-- A release joins only a frame of the queue that is a RELEASE, is not on the line and has room (R89). -/
theorem mergePlace_spec {onLine : Bool} {queue : List CtlFrame} {slots : List Nat} {i : Nat}
    (h : mergePlace onLine queue slots = some i) :
    ∃ f, queue[i]? = some f ∧ f.kind = .release ∧ (i = 0 → onLine = false) ∧ f.slots.length + slots.length ≤ 8 := by
  simp only [mergePlace] at h
  split at h
  · rename_i j hj
    split at h
    · cases h
      have hm := List.mem_of_getLast? hj
      simp only [List.mem_filter, List.mem_range, Bool.and_eq_true, beq_iff_eq, Bool.not_eq_true',
        Bool.and_eq_false_iff] at hm
      obtain ⟨hl, hk, ho⟩ := hm
      refine ⟨queue[i], by simp [hl], by simpa [hl] using hk, fun h0 => ?_, by simp_all⟩
      subst h0
      simpa using ho
    · cases h
  · cases h

/-- A LEAVE frame replaces the queue, and a control frame on the line goes on as a replaced one (R90). -/
theorem State.replaceQueue_eq (s : State) :
    s.replaceQueue = { s with
      line.own := s.line.own.map fun f => match f.source with
        | .control c _ => { f with source := .control c true }
        | .data _ => f
      sender := ⟨[⟨.leave, []⟩], some ⟨0, 2, s.sender.generator % 2⟩, s.nextGenerator⟩ } := rfl

/-! ### Moves of the station -/

/-- The move to OFFLINE leaves what R37 leaves. -/
theorem State.moveOffline_eq (s : State) (r : LeftReason) : s.moveOffline r = s.offLink r := by
  unfold State.moveOffline State.clearLink State.offLink stoppedTimer
  simp [-List.reduceReplicate, TxLane.offline, State.scheduled]

/-- A home pick claims the lowest FREE slot, leaves a WAITING station as it is, or makes the station WAITING. -/
theorem State.homePick_cases (s : State) :
    (∃ n, s.sender.queue.length < 4 ∧ s.lowestFree = some n ∧
      s.homePick = { s with
        station.life := .joining
        sched := ⟨s.sched.slots.set n (.ownClaiming .shared true none), some ⟨.home, .unsent⟩⟩
        sender := s.withFrame ⟨.claim, [n]⟩ })
    ∨ ((4 ≤ s.sender.queue.length ∨ s.lowestFree = none) ∧
      ((s.station.life = .waiting ∧ s.homePick = s)
      ∨ (s.station.life ≠ .waiting ∧
          s.homePick = State.post { s with station.life := .waiting, sender := ⟨[], none, s.sender.generator⟩ } .waiting))) := by
  unfold State.homePick
  split
  · rename_i n h
    split at h
    · refine .inl ⟨n, ‹_›, h, ?_⟩
      unfold State.appendControl State.withFrame State.newHead State.nextGenerator State.setEntry
      cases hq : s.sender.queue <;> simp [hq]
    · cases h
  · rename_i h
    refine .inr ⟨?_, ?_⟩
    · split at h
      · exact .inr h
      · exact .inl (by omega)
    · by_cases hw : s.station.life = .waiting
      · exact .inl ⟨hw, by simp [hw]⟩
      · exact .inr ⟨hw, by simp [hw, State.clearQueue]⟩

/-- A claim that ends with nothing gained frees its entries, and a reservation says so. -/
theorem State.endClaim_eq (s : State) :
    s.endClaim = match s.sched.claim with
      | none => s
      | some ⟨.reservation lane, _⟩ => State.post { s with sched := s.unclaimed } (.reserveDone lane 0)
      | some ⟨.home, _⟩ => { s with sched := s.unclaimed } := by
  unfold State.endClaim
  split
  · simp [*]
  · rename_i c h
    obtain ⟨k, ph⟩ := c
    cases k <;> simp [h, Claim.lossEvents, State.postAll] <;> rfl

/-- The claim in flight that has lost its last entry is cleared; a reservation says so, and a home claim is followed by
a home pick. -/
theorem State.claimLost_eq (s : State) :
    s.claimLost = match s.sched.claim with
      | none => s
      | some ⟨.reservation lane, _⟩ => State.post { s with sched.claim := none } (.reserveDone lane 0)
      | some ⟨.home, _⟩ => State.homePick { s with sched.claim := none } := by
  unfold State.claimLost
  split
  · simp [*]
  · rename_i c h
    obtain ⟨k, ph⟩ := c
    cases k <;> simp [h, Claim.lossEvents, State.postAll]

/-- A lost home slot passes its flag to the lowest held entry; without one a LEAVING station moves to OFFLINE and a
JOINED one gives up its yielding slots and its reservation and picks anew. -/
theorem State.homeLost_cases (s : State) :
    (∃ n, s.sched.slots.findIdx? Entry.isHeld = some n ∧ s.homeLost = s.setEntry n (s.entry n).promote)
    ∨ (s.sched.slots.findIdx? Entry.isHeld = none ∧
      ((s.station.life = .leaving ∧ s.homeLost = s.offLink .host)
      ∨ (s.station.life = .joined ∧ ∃ t, t = s.freeEntries (fun e => e.isOwn && !e.isClaiming) ∧
          s.homeLost = (State.endClaim (if s.sched.claim.isSome then t.dropClaim else t)).homePick)
      ∨ (s.serves = false ∧ s.homeLost = s))) := by
  unfold State.homeLost
  split
  · exact .inl ⟨_, ‹_›, rfl⟩
  · refine .inr ⟨‹_›, ?_⟩
    split
    · exact .inl ⟨‹_›, State.moveOffline_eq _ _⟩
    · exact .inr (.inl ⟨‹_›, _, rfl, rfl⟩)
    · exact .inr (.inr ⟨by simp_all [State.serves], rfl⟩)

/-- A loss notice acts on a claiming or a yielding slot alone (R45). -/
theorem State.lossNotice_cases (s : State) (n : Nat) (before : Entry) :
    (∃ b h settle, before = .ownClaiming b h settle ∧
      ∃ t, (t = s ∨ t = s.editClaim n) ∧
        s.lossNotice n before = if t.sched.slots.any Entry.isClaiming then t else t.claimLost)
    ∨ (∃ b h r w, before = .ownYielding b h r w ∧
        s.lossNotice n before = if h then (s.post (.slotLost n .yielded)).homeLost else s.post (.slotLost n .yielded))
    ∨ ((before.isOwn → before.isHeld) ∧ s.lossNotice n before = s) := by
  cases before with
  | ownClaiming b h settle =>
    refine .inl ⟨b, h, settle, rfl, ?_⟩
    simp only [State.lossNotice]
    split
    · exact ⟨_, .inr rfl, rfl⟩
    · exact ⟨_, .inl rfl, rfl⟩
  | ownYielding b h r w => exact .inr (.inl ⟨b, h, r, w, rfl, rfl⟩)
  | _ => exact .inr (.inr ⟨by simp [Entry.isOwn, Entry.isHeld], rfl⟩)

/-- A win turns every claiming entry into a held one in round 0 and clears the claim. -/
theorem State.winClaim_cases (s : State) :
    (∃ kind t, s.sched.claim = some ⟨kind, .announced false⟩ ∧
      t = { s with sched := ⟨s.sched.slots.map (fun (e : Entry) => match e with
        | .ownClaiming b h _ => .ownHeld b h 0
        | e => e), none⟩ } ∧
      ((∃ lane, kind = .reservation lane ∧
          s.winClaim = t.post (.reserveDone lane (s.sched.slots.countP Entry.isClaiming)))
      ∨ (kind = .home ∧
          s.winClaim = (State.mapLanes { t with station.life := .joined } TxLane.armAtJoin).post
            (.joined (t.homeSlot.getD 0)))))
    ∨ ((∀ kind, s.sched.claim ≠ some ⟨kind, .announced false⟩) ∧ s.winClaim = s) := by
  unfold State.winClaim
  split
  · rename_i kind h
    refine .inl ⟨kind, _, h, rfl, ?_⟩
    cases kind with
    | reservation lane => exact .inl ⟨lane, rfl, rfl⟩
    | home => exact .inr ⟨rfl, rfl⟩
  · rename_i h
    exact .inr ⟨fun kind hk => h kind hk, rfl⟩

/-- A halt changes a READY lane alone, and posts so. -/
theorem State.haltLane_cases (s : State) (l : Nat) (r : HaltReason) :
    ((s.lane l).ready = true ∧
      s.haltLane l r = (s.setLane l { s.lane l with halt := some r }).post (.laneHalted l r))
    ∨ ((s.lane l).ready = false ∧ s.haltLane l r = s) := by
  unfold State.haltLane
  cases (s.lane l).ready <;> simp

/-- Two changes in an open order are taken in one order or the other; only the model's count tells more. -/
theorem State.eitherOrder_cases (choice : Nat → Bool) (f g : State → State) (s : State) :
    (∃ r, s.eitherOrder choice f g = { g (f s) with freeReads := r })
    ∨ ∃ r, s.eitherOrder choice f g = { f (g s) with freeReads := r } := by
  simp only [State.eitherOrder]
  split
  · exact .inl ⟨(g (f s)).freeReads, rfl⟩
  · split
    · exact .inl ⟨_, rfl⟩
    · exact .inr ⟨_, rfl⟩

/-- A fallback sets the reference to the own address and posts so, unless the station listens (R26). -/
theorem State.fallBack_eq (s : State) :
    s.fallBack = if s.station.life = .listening then { s with timer.reference := s.station.address }
      else State.post { s with timer.reference := s.station.address } (.referenceChanged s.station.address false) := by
  simp only [State.fallBack]
  split <;> simp_all

/-- Each halt of an absence touches lanes and event queue alone. -/
theorem State.haltLanesTo_frame (s : State) (p : Nat) :
    s.haltLanesTo p = { s with tx := (s.haltLanesTo p).tx, port := (s.haltLanesTo p).port } := by
  unfold State.haltLanesTo
  generalize s.lanesTo p = ls
  induction ls generalizing s with
  | nil => rfl
  | cons l ls ih =>
    rw [List.foldl_cons, ih]
    obtain ⟨_, h⟩ | ⟨_, h⟩ := s.haltLane_cases l .absent
    · have e := State.post_with_port (s := s.setLane l { s.lane l with halt := some .absent }) (.laneHalted l .absent)
        rfl rfl
      rw [h, e]
      rfl
    · rw [h]

/-- Where both orders agree no order is chosen. -/
theorem State.eitherOrder_agree {choice : Nat → Bool} {f g : State → State} {s : State} (h : g (f s) = f (g s)) :
    s.eitherOrder choice f g = g (f s) := by
  simp [State.eitherOrder, h]

/-! ### Frames that end at a slot start -/

/-- A frame received to its end is taken at once or waits for the slot start at which it ends (R10). -/
theorem State.receives_iff (s : State) (span : FrameSpan) :
    s.receives span = true ↔ s.hears span = true ∧ s.waits span = false ∨ s.waits span = true ∧ s.hears span = false := by
  unfold State.hears State.waits
  cases s.receives span <;> cases s.sendsAtEnd span <;> simp

/-- An invalid frame changes nothing; a valid one, with the start of its slot behind it, waits, is taken or is dropped. -/
theorem State.receive_cases (s : State) (bytes : List Byte) (ragged : Bool) (span : FrameSpan) :
    (Frame.read s.station.address bytes ragged = none ∧ s.receive bytes ragged span = s)
    ∨ ∃ f, Frame.read s.station.address bytes ragged = some f ∧ ∃ t, t = (if span == .overSlotEnd then s else s.startPassed)
      ∧ ((t.waits span = true ∧ s.receive bytes ragged span = { t with line.atStart := some (.underWay bytes) })
        ∨ (t.waits span = false ∧ t.hears span = true ∧ s.receive bytes ragged span = t.accept f span)
        ∨ (t.waits span = false ∧ t.hears span = false ∧ s.receive bytes ragged span = t)) := by
  unfold State.receive State.takeFrame
  split
  · rename_i f hf
    refine .inr ⟨f, hf, _, rfl, ?_⟩
    generalize (if span == .overSlotEnd then s else s.startPassed) = t
    dsimp only
    by_cases hw : t.waits span = true
    · exact .inl ⟨hw, by simp [hw]⟩
    · by_cases hh : t.hears span = true
      · exact .inr (.inl ⟨by simpa using hw, hh, by simp [hw, hh]⟩)
      · exact .inr (.inr ⟨by simpa using hw, by simpa using hh, by simp [hw, hh]⟩)
  · exact .inl ⟨‹_›, rfl⟩

/-- A slot start with no frame heard at it is marked, and the block makes its offer. -/
theorem State.startWith_none {s : State} (offer : State → State) (h : s.line.atStart = none) :
    s.startWith offer = offer s.markStart := by
  simp [State.startWith, h]

/-- A slot start at which a frame was taken begins no own transmission that would have begun there (R10). -/
theorem State.startWith_taken {s : State} (offer : State → State) (h : s.line.atStart = some .taken) :
    s.startWith offer = if s.transmitsIn s.timer.position then s.markStart else offer s.markStart := by
  simp [State.startWith, h]

/-- A frame under way at a slot start is discarded with an own frame that begins there (R10). -/
theorem State.takeUnderWay_sending {s : State} (bytes : List Byte) (h : s.line.own.isSome) : s.takeUnderWay bytes = s := by
  unfold State.takeUnderWay State.takeFrame State.hears State.receives
  split <;> simp [Option.isNone_eq_false_iff.mpr h]

/-- A slot start passes once. -/
theorem State.startPassed_idle {s : State} (h : s.active = false ∨ s.timer.phase ≠ .starting) : s.startPassed = s := by
  obtain h | h := h <;> simp [State.startPassed, h]

/-! ### Counts -/

/-- A cycle start changes nothing before the end of slot S-1 is marked (R2). -/
theorem State.cycleStart_idle {s : State} (h : s.cycleEnds = false) : s.cycleStart = s := by
  simp [State.cycleStart, h]

/-- No slot ends between the end of slot S-1 and the cycle start, or while the timer is stopped (R2). -/
theorem State.slotEnd_idle {s : State} (h : s.active = false ∨ s.cycleEnds = true) : s.slotEnd = s := by
  obtain h | h := h <;> simp [State.slotEnd, h]

/-- A frame whose timing is taken leaves no silence and no expiry due (R48, R53). -/
theorem State.takeTiming_due {s : State} {h : Header} {d : Due} (hd : d ∈ (s.takeTiming h).timer.due) :
    d ∈ s.timer.due ∧ d.renewed = false := by
  simpa [State.takeTiming] using hd

/-- A deadline row takes the lane's next deadline due, or waits for a lower lane's halt (R142). -/
theorem State.deadlineNext_cases (s : State) (l : Nat) :
    (s.nextDeadline l = none ∧ s.deadlineNext l = s)
    ∨ ∃ q, s.nextDeadline l = some q
      ∧ ((s.limitWaits l q = true ∧ s.deadlineNext l = s)
        ∨ (s.limitWaits l q = false ∧ s.deadlineNext l = s.takeDue (.deadline l q))) := by
  unfold State.deadlineNext
  split
  · rename_i q hq
    refine .inr ⟨q, hq, ?_⟩
    split <;> simp_all
  · exact .inl ⟨‹_›, rfl⟩

/-- A count that is due is struck off and takes its last step; another changes nothing. -/
theorem State.takeDue_cases (s : State) (d : Due) :
    (d ∈ s.timer.due ∧ s.takeDue d = State.dueStep { s with timer.due := s.timer.due.erase d } d)
    ∨ (d ∉ s.timer.due ∧ s.takeDue d = s) := by
  unfold State.takeDue
  by_cases h : d ∈ s.timer.due <;> simp [h]

/-- With nothing due there is nothing to catch up. -/
theorem State.catchUp_nil {s : State} (h : s.timer.due = []) : s.catchUp = s := by
  simp [State.catchUp, h]

/-! ### Formats -/

/-- A bit equal to the register's top bit shifts the register alone (R174). -/
theorem crcBit_top (r : BitVec 16) {b : Bool} (k : Nat) (hk : k < 16) (hb : b = r.getLsbD (15 - k)) :
    crcBit (r <<< k) b = r <<< (k + 1) := by
  have top : (r <<< k).msb = b := by
    rw [hb, BitVec.msb_eq_getLsbD_last]
    simp only [BitVec.getLsbD_shiftLeft]
    have : ¬ 16 - 1 < k := by omega
    simp [this]
  simp [crcBit, top, BitVec.shiftLeft_add]

/-- Eight top bits shift a byte out of the register (R174). -/
theorem crcByte_top (r : BitVec 16) {b : Byte} (k : Nat) (hk : k ≤ 8)
    (hb : ∀ i < 8, b.getLsbD i = r.getLsbD (8 - k + i)) : crcByte (r <<< k) b = r <<< (k + 8) := by
  simp only [crcByte, List.foldl_cons, List.foldl_nil]
  rw [crcBit_top r k, crcBit_top r (k + 1), crcBit_top r (k + 1 + 1), crcBit_top r (k + 1 + 1 + 1),
    crcBit_top r (k + 1 + 1 + 1 + 1), crcBit_top r (k + 1 + 1 + 1 + 1 + 1), crcBit_top r (k + 1 + 1 + 1 + 1 + 1 + 1),
    crcBit_top r (k + 1 + 1 + 1 + 1 + 1 + 1 + 1)]
  all_goals first
    | omega
    | (rw [hb _ (by omega)]; congr 1; omega)

/-- A register runs to 0 through its own two bytes, high byte first (R174). -/
theorem crc_wordBytes (r : BitVec 16) : (wordBytes r).foldl crcByte r = 0 := by
  have high : crcByte r ((r >>> 8).setWidth 8) = r <<< 8 := by
    have := crcByte_top r (b := (r >>> 8).setWidth 8) 0 (by omega) (by intro i hi; simp [hi])
    simpa using this
  have low : crcByte (r <<< 8) (r.setWidth 8) = r <<< 16 :=
    crcByte_top r 8 (by omega) (by intro i hi; simp [hi])
  simp only [wordBytes, List.foldl_cons, List.foldl_nil, high, low]
  simp

/-- Bytes closed by their CRC leave the register at 0 (R174). -/
theorem crc_closed (bytes : List Byte) : crc (bytes ++ wordBytes (crc bytes)) = 0 := by
  unfold crc
  rw [List.foldl_append, crc_wordBytes]

end Sys2Proof.Machine
end

