-- ==== Sys2Proof/Laws/PerInstr.lean ====
section
/-!
SUPPORT. Statements about every command as syntax, one lemma per constructor: what the host port can decode.
-/

namespace Sys2Proof.Laws

/-- Whatever bytes a transaction carries, the port makes a host command of them (R155, R175). -/
theorem decodeTransaction_isTransaction (bytes : List Byte) : (decodeTransaction bytes).isTransaction = true := by
  unfold decodeTransaction
  repeat' split
  all_goals rfl

/-- No bytes on the host port make a step that is not one of R175's commands. -/
def NotFromPort.Statement (i : Instr) : Prop :=
  i.isTransaction = false → ∀ bytes, decodeTransaction bytes ≠ i

/-- The port decodes host commands alone. -/
theorem not_from_port (i : Instr) : NotFromPort.Statement i := by
  rintro h bytes rfl
  simp [decodeTransaction_isTransaction] at h

theorem NotFromPort.configure (args : ConfigureArgs) : NotFromPort.Statement (.configure args) := not_from_port _
theorem NotFromPort.join : NotFromPort.Statement .join := not_from_port _
theorem NotFromPort.leave : NotFromPort.Statement .leave := not_from_port _
theorem NotFromPort.reserve (lane n : Byte) : NotFromPort.Statement (.reserve lane n) := not_from_port _
theorem NotFromPort.release (lane : Byte) : NotFromPort.Statement (.release lane) := not_from_port _
theorem NotFromPort.append (lane count : Byte) (payload : List Byte) : NotFromPort.Statement (.append lane count payload) := not_from_port _
theorem NotFromPort.commit (lane : Byte) : NotFromPort.Statement (.commit lane) := not_from_port _
theorem NotFromPort.flush (lane : Byte) : NotFromPort.Statement (.flush lane) := not_from_port _
theorem NotFromPort.resume (lane : Byte) : NotFromPort.Statement (.resume lane) := not_from_port _
theorem NotFromPort.fetch (lane : Byte) : NotFromPort.Statement (.fetch lane) := not_from_port _
theorem NotFromPort.readEvent : NotFromPort.Statement .readEvent := not_from_port _
theorem NotFromPort.readStatus : NotFromPort.Statement .readStatus := not_from_port _
theorem NotFromPort.readSlot (slot : Byte) : NotFromPort.Statement (.readSlot slot) := not_from_port _
theorem NotFromPort.readPeer (address : Byte) : NotFromPort.Statement (.readPeer address) := not_from_port _
theorem NotFromPort.reset : NotFromPort.Statement .reset := not_from_port _
theorem NotFromPort.unknownCommand (code : Byte) : NotFromPort.Statement (.unknownCommand code) := not_from_port _
theorem NotFromPort.commandDiscard (received : List Byte) : NotFromPort.Statement (.commandDiscard received) := not_from_port _
theorem NotFromPort.resetAct : NotFromPort.Statement .resetAct := not_from_port _
theorem NotFromPort.fetchRemoval : NotFromPort.Statement .fetchRemoval := not_from_port _
theorem NotFromPort.eventRemoval : NotFromPort.Statement .eventRemoval := not_from_port _
theorem NotFromPort.powerOn : NotFromPort.Statement .powerOn := not_from_port _
theorem NotFromPort.rstnFall : NotFromPort.Statement .rstnFall := not_from_port _
theorem NotFromPort.rstnRise : NotFromPort.Statement .rstnRise := not_from_port _
theorem NotFromPort.receiveFrame (bytes : List Byte) (ragged : Bool) (span : FrameSpan) : NotFromPort.Statement (.receiveFrame bytes ragged span) := not_from_port _
theorem NotFromPort.scheduledSlotStart : NotFromPort.Statement .scheduledSlotStart := not_from_port _
theorem NotFromPort.openSlotStart : NotFromPort.Statement .openSlotStart := not_from_port _
theorem NotFromPort.ownFrameEnd (differed : Bool) : NotFromPort.Statement (.ownFrameEnd differed) := not_from_port _
theorem NotFromPort.cycleStart : NotFromPort.Statement .cycleStart := not_from_port _
theorem NotFromPort.slotEnd : NotFromPort.Statement .slotEnd := not_from_port _
theorem NotFromPort.lapse (slot : Nat) : NotFromPort.Statement (.lapse slot) := not_from_port _
theorem NotFromPort.yieldWindowExpire (slot : Nat) : NotFromPort.Statement (.yieldWindowExpire slot) := not_from_port _
theorem NotFromPort.pendingExpiry (slot : Nat) : NotFromPort.Statement (.pendingExpiry slot) := not_from_port _
theorem NotFromPort.barExpire (slot : Nat) : NotFromPort.Statement (.barExpire slot) := not_from_port _
theorem NotFromPort.settleExpire : NotFromPort.Statement .settleExpire := not_from_port _
theorem NotFromPort.listenEnd : NotFromPort.Statement .listenEnd := not_from_port _
theorem NotFromPort.waitingHomePick : NotFromPort.Statement .waitingHomePick := not_from_port _
theorem NotFromPort.leaveTimeout : NotFromPort.Statement .leaveTimeout := not_from_port _
theorem NotFromPort.peerAbsence : NotFromPort.Statement .peerAbsence := not_from_port _
theorem NotFromPort.deadlineReached (lane : Nat) : NotFromPort.Statement (.deadlineReached lane) := not_from_port _
theorem NotFromPort.relearnHoldExpire : NotFromPort.Statement .relearnHoldExpire := not_from_port _
theorem NotFromPort.busyHoldExpire (lane : Nat) : NotFromPort.Statement (.busyHoldExpire lane) := not_from_port _
theorem NotFromPort.supplySettled : NotFromPort.Statement .supplySettled := not_from_port _

end Sys2Proof.Laws
end

