-- ==== Sys2Proof/Tests/Slice0.lean ====
section
/-!
SUPPORT. Tests from the spec's own formats and worked examples, the smoke test of WellFormed, and for each statement
with hypotheses a state and operands that meet them, at the boundaries of their ranges.
-/

namespace Sys2Proof.Tests

open Sys2Proof.Machine

set_option Elab.async false

/-! ### Helpers -/

/-- The state after a command. -/
def run (c : Instr) (s : State) : State :=
  match exec c s with
  | .next t => t
  | _ => s

/-- The cycle start at the end of slot S-1 of C16. -/
def nextCycle (s : State) : State := run .cycleStart { s with timer.position := 15, timer.phase := .ended }

/-- The response of the transaction in progress. -/
def response (s : State) : List Byte := (s.port.transaction.map (·.response)).getD []

/-- A lane that holds these positions. -/
def laneOf (destination channel maxPayload share : Nat) (ps : List Position) (next : Seq := 0) : TxLane :=
  ⟨some ⟨destination, channel, maxPayload, share, true⟩, none, ps, next, false, 0, 0⟩

/-- A disabled lane. -/
def noLane : TxLane := ⟨none, none, [], 0, false, 0, 0⟩

/-- A C16 station at the start of a slot, with these peers PRESENT and these entries in its first slots. -/
def station (own : Nat) (life : StationState) (reference position : Nat) (cycle : CycleNum) (present : List Nat)
    (slots : List Entry) (lanes : List TxLane := [noLane, noLane, noLane, noLane]) : State :=
  { State.reset with
    timer := ⟨position, cycle, reference, true, 0, .starting, none, []⟩
    station := ⟨life, own, some .c16, 0, false, 0⟩
    sched := ⟨slots ++ List.replicate (14 - slots.length) .free, none⟩
    peers := (List.range 62).map fun i => ⟨present.contains (i + 1), 0, false⟩
    tx := ⟨lanes, 3⟩ }

/-- The example stations' own home slot. -/
def home : Entry := .ownHeld .shared true 0

/-- Station 12, JOINED, with one entry of each kind. -/
def s12 : State :=
  station 12 .joined 3 4 300 [3, 20]
    [home, .ownHeld (.lane 0) false 1, .ownYielding (.lane 0) false 1 1, .peerHeld 20 7, .free, .peerPending 20 1,
      .barred 1, .peerHeld 3 0]
    [laneOf 20 1 16 32 [], laneOf 63 0 32 32 [], laneOf 3 0 8 32 [], noLane]

/-- Station 12 with a reservation of slot 8 not yet announced. -/
def claiming12 : State :=
  { s12 with
    sched := ⟨s12.sched.slots.set 8 (.ownClaiming (.lane 0) false none), some ⟨.reservation 0, .unsent⟩⟩
    sender := ⟨[⟨.claim, [8]⟩], some ⟨0, 2, 0⟩, 21⟩ }

/-- Station 12, LEAVING with its one home slot. -/
def leaving12 : State :=
  { station 12 .leaving 3 4 300 [3, 20] [home] with
    sender := ⟨[⟨.leave, []⟩], some ⟨0, 2, 0⟩, 21⟩, station.leaveCount := 1 }

/-- Station 12, JOINING with a home claim on slot 4 in this phase. -/
def joining12 (phase : ClaimPhase) (settle : Option Nat) : State :=
  { station 12 .joining 3 5 300 [3, 20] [] with
    sched := ⟨(List.replicate 14 .free).set 4 (.ownClaiming .shared true settle), some ⟨.home, phase⟩⟩
    sender := if phase = .unsent then ⟨[⟨.claim, [4]⟩], some ⟨0, 2, 0⟩, 21⟩ else ⟨[], none, 21⟩ }

/-- Station 12, listening and not acquired. -/
def listening12 : State :=
  { station 12 .listening 12 4 300 [] [] with
    timer.acquired := false, timer.phase := .running, station.listenCount := 1 }

/-- Station 12 in a slot whose start is marked. -/
def in12 : State := { s12 with timer.phase := .running }

/-- Station 12, configured and OFFLINE. -/
def offline12 : State :=
  { station 12 .offline 12 0 0 [] [] s12.tx.lanes with timer := stoppedTimer 12 }

/-- The arguments of the boundary configuration: the highest own address, and lanes that use up the pool. -/
def fullPool : ConfigureArgs :=
  ⟨62, 3, ⟨1, 3, 32, 128, 1⟩, ⟨63, 0, 32, 64, 0⟩, ⟨1, 2, 8, 64, 0⟩, ⟨0, 9, 9, 9, 9⟩, 0x05⟩

/-! ### WellFormed: one ill-formed term for each check -/

theorem test_wf_append_short_payload : (Instr.append 0 2 [1]).wf = false := by decide
theorem test_wf_append_payload_for_count_0 : (Instr.append 0 0 [1]).wf = false := by decide
theorem test_wf_append_payload_above_32 : (Instr.append 0 33 (List.replicate 33 1)).wf = false := by decide
theorem test_wf_unknown_names_a_command : (Instr.unknownCommand 0x7F).wf = false := by decide
theorem test_wf_discard_is_whole : (Instr.commandDiscard [0x21, 0]).wf = false := by decide
theorem test_wf_slot_62 : (Instr.lapse 62).wf = false ∧ (Instr.yieldWindowExpire 62).wf = false
    ∧ (Instr.pendingExpiry 62).wf = false ∧ (Instr.barExpire 62).wf = false := by decide
theorem test_wf_lane_4 : (Instr.deadlineReached 4).wf = false ∧ (Instr.busyHoldExpire 4).wf = false := by decide
theorem test_wf_no_bits : (Instr.receiveFrame [] false .inSlot).wf = false := by decide
theorem test_wf_accepts : (Instr.append 0 2 [1, 2]).wf ∧ (Instr.unknownCommand 0x04).wf
    ∧ (Instr.commandDiscard [0x21]).wf ∧ (Instr.lapse 61).wf ∧ (Instr.deadlineReached 3).wf
    ∧ (Instr.receiveFrame [] true .inSlot).wf := by decide

/-! ### Formats (chapter 11) -/

/-- R175's codes, written out. -/
theorem test_decode_codes :
    decodeTransaction [0x02] = .join ∧ decodeTransaction [0x10, 1, 3] = .reserve 1 3
    ∧ decodeTransaction [0x20, 2, 3, 7, 8, 9, 10] = .append 2 3 [7, 8, 9] ∧ decodeTransaction [0x30, 1, 0] = .fetch 1
    ∧ decodeTransaction [0x43, 62] = .readPeer 62 ∧ decodeTransaction [0x44] = .unknownCommand 0x44
    ∧ decodeTransaction [0x42] = .commandDiscard [0x42] ∧ decodeTransaction [0x20, 0, 33] = .append 0 33 [] := by decide

/-- CONFIGURE takes 23 argument bytes: 22 are too few (R175). -/
theorem test_decode_configure :
    decodeTransaction (0x01 :: fullPool.bytes) = .configure fullPool
    ∧ decodeTransaction (0x01 :: fullPool.bytes.dropLast) = .commandDiscard (0x01 :: fullPool.bytes.dropLast) := by
  decide +kernel

/-- Section 11.1's header example: DATA, C32, sender 12, slot 4, cycle 4000, reference 7. -/
theorem test_header_example :
    Header.bytes ⟨.c32, 12, 4, 4000, 7⟩ 1 = [0x12, 0x0C, 0x04, 0x0F, 0xA0, 0x07] := by decide

/-- The CRC of the bytes 31h to 39h with this generator and start is 29B1h (the published check value), and the closing
bytes bring 0 (R174). -/
theorem test_crc : crc [0x31, 0x32, 0x33, 0x34, 0x35, 0x36, 0x37, 0x38, 0x39] = 0x29B1#16
    ∧ crc [0x31, 0x32, 0x33, 0x34, 0x35, 0x36, 0x37, 0x38, 0x39, 0x29, 0xB1] = 0 := by decide +kernel

/-- The frame sizes of section 11.1: a fill frame 9 bytes, the largest frame 50, a CLAIM of 8 slots 17, a LEAVE 8. -/
theorem test_frame_sizes :
    let h : Header := ⟨.c64, 62, 61, 0xFFFF, 255⟩
    let a : AckEntry := ⟨63, 3, 7, true⟩
    (Frame.bytes ⟨h, .data [] none⟩).length = 9
    ∧ (Frame.bytes ⟨h, .data [a, a, a] (some ⟨63, 3, 7, true, List.replicate 32 255⟩)⟩).length = 50
    ∧ (Frame.bytes ⟨h, .claim [0, 1, 2, 3, 4, 5, 6, 255]⟩).length = 17
    ∧ (Frame.bytes ⟨h, .leave⟩).length = 8 := by decide +kernel

/-- An event record: SLOT_LOST(9, ABANDONED) in cycle 4000, and JOINED(3), whose second argument is absent (R176). -/
theorem test_event_records :
    EventRecord.bytes ⟨.slotLost 9 .abandoned, 4000⟩ = [0x05, 0x0F, 0xA0, 9, 2]
    ∧ EventRecord.bytes ⟨.joined 3, 1⟩ = [0x01, 0, 1, 3, 0xFF] := by decide

/-- The draws of stations 7 and 12 after JOIN (section 5.2). -/
theorem test_draws :
    let g := fun own x => State.nextGenerator { State.reset with station.address := own, sender.generator := x }
    [g 7 7, g 7 50, g 7 9] = [50, 9, 60] ∧ [g 12 12, g 12 21, g 12 2] = [21, 2, 35]
    ∧ [7 % 2, 50 % 4, 9 % 8, 60 % 16] = [1, 2, 1, 12] ∧ [12 % 2, 21 % 4, 2 % 8, 35 % 16] = [0, 1, 2, 3] := by decide

/-! ### The host port (chapter 10) -/

/-- Section 10.6: the first whole READ_EVENT of a full queue with three lost records lets EVENTS_LOST(3) in. -/
theorem test_overflow :
    let full := { s12 with port.events := List.replicate 16 ⟨.waiting, 7⟩ }
    let lost := full.postAll [.peerDown 33, .laneHalted 2 .absent, .packetConfirmed 0 6]
    lost.port.lost = 3 ∧ response (run .readEvent lost) = [0x01, 0x02, 0, 7, 0xFF, 0xFF]
    ∧ (run .readEvent (run .readEvent lost)).port.events.length = 16
    ∧ (run .eventRemoval (run .readEvent lost)).port.events.getLast? = some ⟨.eventsLost 3, 300⟩
    ∧ (run .eventRemoval (run .readEvent lost)).port.lost = 0 := by decide +kernel

theorem test_configure :
    let t := run (.configure fullPool) State.reset
    t.station.life = .offline ∧ t.station.address = 62 ∧ t.sched.slots.length = 62 ∧ t.timer.reference = 62
    ∧ t.tx.lanes.map (·.depth) = [2, 2, 2, 0] ∧ t.rx.notify = [true, false, true, false]
    ∧ response t = [0x01] := by decide +kernel

/-- A share that holds no packet, a pool of 288 bytes and a lane to the own address are refused with ARG (R159). -/
theorem test_configure_refused :
    response (run (.configure { fullPool with lane0 := ⟨1, 3, 32, 0, 1⟩ }) State.reset) = [0x04]
    ∧ response (run (.configure { fullPool with lane3 := ⟨2, 0, 32, 32, 0⟩ }) State.reset) = [0x04]
    ∧ response (run (.configure { fullPool with lane3 := ⟨62, 0, 8, 0, 0⟩ }) State.reset) = [0x04]
    ∧ response (run (.configure fullPool) s12) = [0x02] := by decide +kernel

theorem test_join : (run .join offline12).station.life = .listening ∧ (run .join offline12).station.listenCount = 2
    ∧ (run .join offline12).sender.generator = 12 ∧ response (run .join s12) = [0x02] := by decide +kernel

theorem test_leave_joined : (run .leave claiming12).station.life = .leaving
    ∧ (run .leave claiming12).sender.queue = [⟨.leave, []⟩] ∧ (run .leave claiming12).entry 8 = .free
    ∧ (run .leave claiming12).port.events = [⟨.reserveDone 0 0, 300⟩] := by decide +kernel

theorem test_leave_joining : (run .leave (joining12 .unsent none)).station.life = .offline
    ∧ (run .leave (joining12 .unsent none)).port.events = [⟨.left .host, 300⟩] := by decide +kernel

theorem test_reserve : (run (.reserve 0 2) s12).entry 4 = .ownClaiming (.lane 0) false none
    ∧ (run (.reserve 0 2) s12).entry 8 = .ownClaiming (.lane 0) false none
    ∧ (run (.reserve 0 2) s12).sender.queue = [⟨.claim, [4, 8]⟩] := by decide +kernel

theorem test_release : (run (.release 0) s12).entry 1 = .free ∧ (run (.release 0) s12).entry 0 = home
    ∧ (run (.release 0) s12).sender.queue = [⟨.release, [1, 2]⟩] := by decide +kernel

/-- Section 7.8: a full lane refuses a packet. -/
theorem test_append : let t := run (.append 0 2 [7, 8]) s12
    (t.lane 0).positions = [⟨[7, 8], none, .loading⟩]
    ∧ ((run (.append 0 14 (List.replicate 14 1)) t).lane 0).positions.map (·.phase) = [.committed] := by decide +kernel

theorem test_append_full :
    let p : Position := ⟨[1], some 5, .sent false 6 431 false⟩
    response (run (.append 0 10 (List.replicate 10 1)) { s12 with tx.lanes := [laneOf 20 1 16 32 [p, p]] }) = [0x05] := by
  decide +kernel

theorem test_commit : ((run (.commit 0) (run (.append 0 2 [7, 8]) s12)).lane 0).positions = [⟨[7, 8], none, .committed⟩]
    ∧ response (run (.commit 0) s12) = [0x06] := by decide +kernel

/-- Section 7.8: lane 0 with P and R sent, halted with RETRY. -/
def halted12 : State :=
  { s12 with tx.lanes := [{ laneOf 20 1 16 32 [⟨[1], some 5, .sent false 6 431 false⟩, ⟨[2], some 6, .sent false 0 432 false⟩] 7
      with halt := some .retry }, noLane, noLane, noLane] }

theorem test_flush : (run (.flush 0) halted12).lane 0 = { laneOf 20 1 16 32 [] 7 with armed := true } := by decide +kernel

theorem test_resume : ((run (.resume 0) halted12).lane 0).positions = [⟨[1], some 5, .committed⟩, ⟨[2], some 6, .committed⟩]
    ∧ ((run (.resume 0) halted12).lane 0).armed ∧ ((run (.resume 0) halted12).lane 0).nextSeq = 7
    ∧ response (run (.resume 1) s12) = [0x02] := by decide +kernel

/-- A record in receive lane 1. -/
def received12 : State := { s12 with rx.lanes := [[], [⟨20, true, [0xAB, 0xCD], 0x0102⟩], [], []] }

theorem test_fetch : response (run (.fetch 1) received12) = [0x01, 20, 1, 1, 2, 2, 0xAB, 0xCD]
    ∧ (run (.fetch 1) received12).rxLane 1 ≠ [] ∧ (run .fetchRemoval (run (.fetch 1) received12)).rxLane 1 = [] := by
  decide +kernel

/-- A FETCH cut short by another command removes nothing. -/
theorem test_fetch_cut_short : (run .fetchRemoval (run .readStatus (run (.fetch 1) received12))).rxLane 1 ≠ [] := by
  decide +kernel

/-- What MISO reads in the FETCH: 00h for its two bytes, the response of seven bytes, 00h after it, and nothing once chip
select has risen, after which no removal is made (R150, R154, R156). -/
theorem test_miso :
    let t := run (.fetch 1) received12
    (List.range 11).map t.miso = [0, 0, 0x01, 20, 1, 1, 2, 2, 0xAB, 0xCD, 0].map some
    ∧ (run .resetAct t).miso 0 = none ∧ (run .fetchRemoval (run .resetAct t)).rxLane 1 ≠ []
    ∧ (run .fetchRemoval (run .fetchRemoval t)).miso 10 = some 0 := by decide +kernel

/-- An event whose record was cut short by the rise of chip select stays (R164). -/
theorem test_event_cut_short :
    let s := { s12 with port.events := [⟨.waiting, 7⟩] }
    (run .eventRemoval (run .resetAct (run .readEvent s))).port.events = [⟨.waiting, 7⟩]
    ∧ (run .eventRemoval (run .readEvent s)).port.events = [] := by decide +kernel

theorem test_read_status : response (run .readStatus s12)
    = [0x01, 5, 12, 3, 0x01, 0x2C, 3, 0, 1, 0, 1, 0, 1, 0, 0, 0, 0, 0, 0, 0, 0, 0] := by decide +kernel

theorem test_read_slot : response (run (.readSlot 2) s12)
    = [0x01, 2, 6, 12, 0xFF, 0xFF, 0xFF, 0, 0, 0xFF, 0xFF, 1, 1]
    ∧ response (run (.readSlot 3) s12) = [0x01, 3, 3, 20, 0xFF, 0xFF, 7, 0xFF, 0xFF, 0xFF, 0xFF, 0xFF, 0xFF]
    ∧ response (run (.readSlot 14) s12) = [0x04] := by decide +kernel

theorem test_read_peer : response (run (.readPeer 12) s12) = [0x01, 12, 1, 0, 0, 0]
    ∧ response (run (.readPeer 20) s12) = [0x01, 20, 0, 1, 0, 0] ∧ response (run (.readPeer 63) s12) = [0x04] := by
  decide +kernel

theorem test_reset : (run .reset s12).station.life = .joined ∧ (run .resetAct (run .reset s12)).station.life = .offline
    ∧ (run .resetAct (run .reset s12)).entry 0 = .free ∧ (run .resetAct s12) = s12 := by decide +kernel

theorem test_unknown_and_discard : response (run (.unknownCommand 0x44) s12) = [0x09]
    ∧ (run (.commandDiscard [0x20, 0]) (run .readStatus s12)).port.transaction = none := by decide +kernel

theorem test_pins : (run .rstnFall s12).station.life = .unconfigured ∧ run .join (run .rstnFall s12) = run .rstnFall s12
    ∧ (run .rstnRise (run .rstnFall s12)).held = false ∧ (run .powerOn s12).held
    ∧ (run .supplySettled (run .powerOn s12)) = { State.reset with pending := [] } := by decide +kernel

/-! ### Frames and counts on the link -/

/-- A fill frame from a station with these header fields. -/
def fill (sender slot : Nat) (cycle : CycleNum) (reference : Nat) (code : CycleCode := .c16) : List Byte :=
  Frame.bytes ⟨⟨code, sender, slot, cycle, reference⟩, .data [] none⟩

/-- Section 1.5 at station 9 of C32 in slot 12 of cycle 4000: the table's rows, by what each changes. -/
theorem test_frame_acceptance :
    let s : State := { station 9 .joined 4 12 4000 [4, 17] [] with
      station.code := some .c32, sched.slots := List.replicate 30 .free }
    let hear := fun bytes => run (.receiveFrame bytes false .inSlot) s
    (hear (fill 4 12 4000 4 .c32)).entry 12 = .peerHeld 4 0
    ∧ hear ((fill 17 12 4000 4 .c32).set 7 0) = s
    ∧ hear (fill 9 12 4000 4 .c32) = s
    ∧ ((hear (fill 17 12 77 17 .c16)).peer 17).mismatch
    ∧ hear (fill 17 15 77 17 .c16) = s
    ∧ ((hear (Frame.bytes ⟨⟨.c32, 23, 30, 4000, 23⟩, .claim [12]⟩)).peer 23).present
    ∧ (hear (Frame.bytes ⟨⟨.c32, 23, 30, 4000, 23⟩, .claim [12]⟩)).entry 12 = .free
    ∧ hear (Frame.bytes ⟨⟨.c32, 4, 12, 4000, 4⟩, .release [5]⟩) = s
    ∧ (hear (fill 17 12 3999 4 .c32)).entry 12 = .free := by decide +kernel

/-- Section 4.6.1: station 30 resyncs on station 9's frame in slot 3 of cycle 1000 and learns it. -/
theorem test_resync :
    let s := station 30 .joined 17 11 44 [17] [.free, .free, .free, .peerHeld 17 0, .free, .free, home]
    let t := run (.receiveFrame (fill 9 3 1000 9) false .inSlot) s
    t.timer.reference = 9 ∧ t.timer.position = 3 ∧ t.timer.cycle = 1000 ∧ t.timer.relearnHold = 2
    ∧ t.entry 3 = .peerHeld 9 0 ∧ t.entry 6 = home
    ∧ t.port.events = [⟨.referenceChanged 9 true, 1000⟩, ⟨.peerUp 9, 1000⟩] := by decide +kernel

/-- Station 20 of section 7.7 at this slot, with the lanes as they stand there. -/
def served20 (position last : Nat) (lanes : List TxLane) : State :=
  let s := station 20 .joined 20 position 400 [7, 12]
    [.free, .free, home, .free, .free, .ownHeld (.lane 1) false 0, .free, .free, .free, .ownHeld (.lane 0) false 0] lanes
  { s with tx.lastShared := last }

/-- Section 7.7: slots 2, 5 and 9 of cycle 400. -/
theorem test_slot_service :
    let p : Position := ⟨[1], none, .committed⟩
    let sent : Position := ⟨[1], some 5, .sent false 0 404 false⟩
    let q : Position := ⟨List.replicate 32 2, none, .committed⟩
    let a := run .scheduledSlotStart (served20 2 3
      [laneOf 7 0 16 32 [p] 5, laneOf 12 1 32 64 [] 2, laneOf 63 3 8 32 [p, p], noLane])
    let b := run .scheduledSlotStart (served20 5 0
      [laneOf 7 0 16 32 [sent] 6, laneOf 12 1 32 64 [] 2, laneOf 63 3 8 32 [p, p], noLane])
    let c := run .scheduledSlotStart (served20 9 2
      [laneOf 7 0 16 32 [sent] 6, laneOf 12 1 32 64 [q] 2, laneOf 63 3 8 32 [p] 1, noLane])
    (a.lane 0).positions = [sent] ∧ (a.lane 0).nextSeq = 6 ∧ a.tx.lastShared = 0
    ∧ (b.lane 2).positions = [p] ∧ (b.lane 2).nextSeq = 1 ∧ b.tx.lastShared = 2
    ∧ (c.lane 1).positions = [⟨q.payload, some 2, .sent false 0 404 false⟩] ∧ c.tx.lastShared = 1
    ∧ c.line.own.map (·.bytes.take 10) = some [0x11, 20, 9, 0x01, 0x90, 20, 0x80, 0x4C, 0x02, 0x20] := by
  decide +kernel

/-- Section 5.7: the CLAIM of station 12 waits for its backoff, and goes out at 0. -/
theorem test_open_slot :
    let s := { claiming12 with timer.position := 14, sender.attempt := some ⟨1, 4, 1⟩ }
    (run .openSlotStart s).line.own = none ∧ (run .openSlotStart s).sender.attempt = some ⟨1, 4, 0⟩
    ∧ (run .openSlotStart { s with sender.attempt := some ⟨1, 4, 0⟩ }).line.own.map (·.bytes.take 8)
      = some [0x21, 12, 14, 0x01, 0x2C, 3, 1, 8] := by decide +kernel

/-- Station 12 with an own frame on the line. -/
def sending12 (source : FrameSource) (s : State) : State := { s with line.own := some ⟨source, [0], .clean, false⟩ }

/-- A frame from station 40 that ends at the start of the own slot 1 is discarded with the own frame that begins there, and
taken where a RELEASE of that instant leaves none (R10). -/
theorem test_frame_under_way :
    let waits := run (.receiveFrame (fill 40 5 300 40) false .atSlotEnd)
      { s12 with timer.position := 0, timer.phase := .running }
    let sent := run .scheduledSlotStart (run .slotEnd waits)
    let silent := run .scheduledSlotStart (run .slotEnd (run (.release 0) waits))
    (waits.peer 40).present = false ∧ sent.line.own.isSome ∧ (sent.peer 40).present = false
    ∧ silent.line.own = none ∧ (silent.peer 40).present := by decide +kernel

/-- A frame taken at the cycle start at which slot 0 is won comes with the pick first: no own frame goes out (R10, R124). -/
theorem test_frame_before_win :
    let s := { joining12 (.announced false) (some 1) with
      timer.position := 15, timer.phase := .running
      sched.slots := (List.replicate 14 .free).set 0 (.ownClaiming .shared true (some 1)) }
    let start := fun s => run .scheduledSlotStart (run .settleExpire (run .cycleStart (run .slotEnd s)))
    (start s).line.own.isSome
    ∧ (start (run (.receiveFrame (fill 40 5 300 40) false .atSlotEnd) s)).line.own = none
    ∧ ((start (run (.receiveFrame (fill 40 5 300 40) false .atSlotEnd) s)).peer 40).present
    ∧ (start (run (.receiveFrame (fill 40 5 300 40) false .atSlotEnd) s)).entry 0 = home := by decide +kernel

/-- A resync frame from the reference before the count of the cycle start: PRESENT with count 1 and no event; after it,
PEER_DOWN and PEER_UP (R101). -/
theorem test_resync_meets_absence :
    let s := nextCycle ((station 12 .joined 3 4 300 [3, 20] [home]).setPeer 3 ⟨true, 15, false⟩)
    let hear := run (.receiveFrame (fill 3 5 300 3) false .inSlot)
    let first := run .peerAbsence (hear s)
    let last := hear (run .peerAbsence s)
    first.peer 3 = ⟨true, 1, false⟩ ∧ first.port.events.map (·.event) = [.referenceChanged 3 true]
    ∧ last.peer 3 = ⟨true, 0, false⟩ ∧ .peerDown 3 ∈ last.port.events.map (·.event)
    ∧ .peerUp 3 ∈ last.port.events.map (·.event) := by decide +kernel

/-- Section 5.7: station 12's first attempt fails with g = 35 and draws 3 of window 4, g becomes 8. -/
theorem test_control_failed :
    let t := run (.ownFrameEnd true) (sending12 (.control ⟨.claim, [8]⟩ false) { claiming12 with sender.generator := 35 })
    t.sender.attempt = some ⟨1, 4, 3⟩ ∧ t.sender.generator = 8 ∧ t.line.faultCount = 1 := by decide +kernel

/-- Section 1.7: the yield rounds of station 30, the eighth failure, and a clean frame. -/
theorem test_data_result :
    let s := fun e count => { sending12 (.data 2) (station 30 .joined 30 2 500 [] [.free, .free, e,
      .free, .free, .free, .free, .free, .free, .ownHeld (.lane 1) false 2]) with line.faultCount := count }
    (run (.ownFrameEnd true) (s (.ownHeld .shared true 0) 0)).entry 2 = .ownYielding .shared true 1 7
    ∧ (run (.ownFrameEnd true) (s (.ownHeld .shared true 1) 2)).entry 2 = .ownYielding .shared true 2 4
    ∧ (run (.ownFrameEnd true) (s (.ownHeld .shared true 2) 4)).entry 2 = .barred 16
    ∧ (run (.ownFrameEnd true) (s (.ownHeld .shared true 2) 4)).entry 9 = .ownHeld (.lane 1) true 2
    ∧ (run (.ownFrameEnd true) (s (.ownHeld .shared true 2) 7)).station.life = .fault
    ∧ (run (.ownFrameEnd false) (s (.ownHeld .shared true 2) 7)).line.faultCount = 0 := by decide +kernel

/-- SLOT_END steps a silence and leaves the eighth due; LAPSE takes it (R48, R49). -/
theorem test_silence :
    let at3 := { s12 with timer.position := 3 }
    (run .slotEnd at3).timer.due = [.lapse 3] ∧ (run (.lapse 3) (run .slotEnd at3)).entry 3 = .free
    ∧ (run .slotEnd { s12 with timer.position := 7 }).entry 7 = .peerHeld 3 1
    ∧ (run .slotEnd { at3 with line.heardData := [20] }).entry 3 = .peerHeld 20 7 := by decide +kernel

/-- The window of section 4.6.1 runs out: OWN_HELD in its round again (R75). -/
theorem test_window : (run (.yieldWindowExpire 2) (run .slotEnd { s12 with timer.position := 2 })).entry 2
    = .ownHeld (.lane 0) false 1 ∧ (run .slotEnd { s12 with timer.position := 15 }).timer.phase = .ended := by
  decide +kernel

/-- The cycle start of `s12` leaves the last expiry and the last bar due; it comes after slot S-1 alone (R2). -/
theorem test_cycle_start :
    let t := nextCycle s12
    run .cycleStart s12 = s12 ∧ run .slotEnd { s12 with timer.position := 15, timer.phase := .ended }
      = { s12 with timer.position := 15, timer.phase := .ended }
    ∧ t.timer.due = [.pendingExpiry 5, .barExpire 6] ∧ t.timer.cycle = 301 ∧ t.timer.position = 0
    ∧ (run (.pendingExpiry 5) t).entry 5 = .free ∧ (run (.barExpire 6) t).entry 6 = .free
    ∧ run (.pendingExpiry 6) t = t ∧ (t.peer 20).silence = 1 := by decide +kernel

/-- Section 5.7: the settle of a claim announced in cycle 802 is 4 after 803 and won at 807. -/
theorem test_settle :
    let announced := { s12 with
      sched := ⟨s12.sched.slots.set 8 (.ownClaiming (.lane 0) false (some 4)), some ⟨.reservation 1, .announced true⟩⟩ }
    let cycles := fun n => Nat.repeat nextCycle n announced
    (cycles 1).entry 8 = .ownClaiming (.lane 0) false (some 4)
    ∧ (cycles 4).entry 8 = .ownClaiming (.lane 0) false (some 1)
    ∧ (run .settleExpire (cycles 5)).entry 8 = .ownHeld (.lane 0) false 0
    ∧ (run .settleExpire (cycles 5)).port.events.getLast? = some ⟨.reserveDone 1 1, 305⟩ := by decide +kernel

/-- A home claim won makes the station JOINED and arms its lanes (R32). -/
theorem test_home_won :
    let t := run .settleExpire { joining12 (.announced false) (some 1) with
      timer.due := [.settle], tx.lanes := [laneOf 20 1 16 32 [], noLane, noLane, noLane] }
    t.station.life = .joined ∧ t.port.events = [⟨.joined 4, 300⟩] ∧ (t.lane 0).armed ∧ t.entry 4 = home := by
  decide +kernel

/-- The end of listening claims slot 0 of an empty table; a full table leaves the station WAITING (R30). -/
theorem test_listen_end :
    let t := nextCycle listening12
    let full := { t with sched.slots := List.replicate 14 (.peerHeld 3 0) }
    t.timer.due = [.listenEnd] ∧ (run .listenEnd t).station.life = .joining
    ∧ (run .listenEnd t).sender.queue = [⟨.claim, [0]⟩] ∧ (run .listenEnd full).station.life = .waiting
    ∧ run .waitingHomePick { run .listenEnd full with timer.due := [.waitingPick] }
      = run .listenEnd full := by decide +kernel

theorem test_leave_timeout : (run .leaveTimeout (nextCycle leaving12)).port.events = [⟨.left .timeout, 301⟩] := by
  decide +kernel

/-- Sixteen silent cycles make a peer ABSENT, halt the lanes to it and free its slots (R97, R98). -/
theorem test_peer_absence :
    let t := run .peerAbsence (nextCycle (s12.setPeer 20 ⟨true, 15, false⟩))
    t.peer 20 = ⟨false, 16, false⟩ ∧ t.entry 3 = .free ∧ (t.lane 0).halt = some .absent
    ∧ t.port.events = [⟨.peerDown 20, 301⟩, ⟨.laneHalted 0 .absent, 301⟩] := by decide +kernel

/-- Section 7.8: P reaches its deadline at the cycle start of 431 after six retransmissions. -/
theorem test_retry_limit :
    let p := fun r => { s12 with
      timer.cycle := 430, tx.lanes := [laneOf 20 1 16 32 [⟨[1], some 5, .sent false r 431 false⟩] 7, noLane, noLane, noLane] }
    let limit := run (.deadlineReached 0) (nextCycle (p 6))
    (limit.lane 0).halt = some .retry ∧ limit.port.events = [⟨.laneHalted 0 .retry, 431⟩]
    ∧ ((run (.deadlineReached 0) (nextCycle (p 5))).lane 0).positions
      = [⟨[1], some 5, .sent false 5 431 true⟩] := by decide +kernel

/-- R142: lane 0 with P below the limit and Q at it halts before lane 1, whichever row comes first. -/
theorem test_limit_order :
    let sent := fun q r => Position.mk [1] (some q) (.sent false r 431 false)
    let s := nextCycle { s12 with
      timer.cycle := 430
      tx.lanes := [laneOf 20 1 16 32 [sent 5 0, sent 6 6] 7, laneOf 20 2 16 32 [sent 2 6] 3, noLane, noLane] }
    run (.deadlineReached 1) s = s
    ∧ (run (.deadlineReached 1) (run (.deadlineReached 0) (run (.deadlineReached 0) s))).port.events
      = [⟨.laneHalted 0 .retry, 431⟩, ⟨.laneHalted 1 .retry, 431⟩] := by decide +kernel

/-- R53: a lapse due from before a resync does not step the entry learned from the frame that caused it, nor does an
expiry due step a claim so learned. -/
theorem test_resync_discards_counts :
    let s := run .slotEnd { s12 with timer.position := 3 }
    let t := run (.lapse 3) (run (.receiveFrame (fill 3 3 7 3) false .inSlot) s)
    let c := run (.pendingExpiry 5) (run (.receiveFrame (Frame.bytes ⟨⟨.c16, 3, 14, 7, 3⟩, .claim [5]⟩) false .inSlot)
      (nextCycle s12))
    s.timer.due = [.lapse 3] ∧ t.entry 3 = .peerHeld 3 0 ∧ t.entry 7 = .free ∧ t.timer.cycle = 7
    ∧ c.entry 5 = .peerPending 3 6 ∧ c.entry 6 = .barred 1 ∧ c.timer.due = [.barExpire 6] := by decide +kernel

theorem test_holds :
    let s := { s12 with timer.relearnHold := 1, tx.lanes := [noLane, { laneOf 20 0 8 32 [] with busyHold := 2 }] }
    let t := nextCycle s
    t.timer.relearnHold = 1 ∧ (run .relearnHoldExpire t).timer.relearnHold = 0 ∧ (t.lane 1).busyHold = 1
    ∧ ((run (.busyHoldExpire 1) (nextCycle t)).lane 1).busyHold = 0 := by decide +kernel

/-! ### Witnesses: states and operands that meet the statements' hypotheses -/

/-- Station 12 with commands that wait. -/
def waiting12 : State := { s12 with pending := [.reserve 0 4, .readStatus] }

theorem witness_StepRunsFrontCommand : waiting12.pending = .reserve 0 4 :: [.readStatus] ∧ s12.pending = [] := by decide

theorem coherent_waiting12 : waiting12.Coherent :=
  ⟨by decide +kernel, by decide +kernel, by decide +kernel, by decide +kernel, by decide +kernel, by decide +kernel,
    by decide +kernel, by decide +kernel⟩

/-- The premises of the invariants' statements, at the JOINED station. -/
theorem witness_coherent_step : waiting12.Coherent ∧ ∃ t, step waiting12 = .next t := ⟨coherent_waiting12, _, rfl⟩

theorem witness_CountsStayBounded : waiting12.Coherent ∧ ∃ t, step waiting12 = .next t := witness_coherent_step
theorem witness_TableStaysInRange : waiting12.Coherent ∧ ∃ t, step waiting12 = .next t := witness_coherent_step
theorem witness_TablesStaySized : waiting12.Coherent ∧ ∃ t, step waiting12 = .next t := witness_coherent_step
theorem witness_HomeStaysCoherent : waiting12.Coherent ∧ ∃ t, step waiting12 = .next t := witness_coherent_step
theorem witness_QueueStaysCoherent : waiting12.Coherent ∧ ∃ t, step waiting12 = .next t := witness_coherent_step
theorem witness_OnlyPresentPeersConcerned : waiting12.Coherent ∧ ∃ t, step waiting12 = .next t := witness_coherent_step
theorem witness_LanesStayOrdered : waiting12.Coherent ∧ ∃ t, step waiting12 = .next t := witness_coherent_step

/-- Off the link: the configured OFFLINE station of 12 takes a JOIN. -/
theorem witness_OffLinkStaysClean :
    State.Coherent { offline12 with pending := [.readStatus], timer := stoppedTimer 12 }
    ∧ ∃ t, step { offline12 with pending := [.readStatus], timer := stoppedTimer 12 } = .next t :=
  ⟨⟨by decide +kernel, by decide +kernel, by decide +kernel, by decide +kernel, by decide +kernel, by decide +kernel,
    by decide +kernel, by decide +kernel⟩, _, rfl⟩

/-- The largest frame, from the highest address in the last scheduled slot. -/
def largest : Frame :=
  let a : AckEntry := ⟨63, 3, 7, true⟩
  ⟨⟨.c64, 62, 61, 0xFFFF, 255⟩, .data [a, a, a] (some ⟨63, 3, 7, true, List.replicate 32 255⟩)⟩

theorem witness_FrameReadsBack : largest.validFor 61
    ∧ Frame.validFor 2 ⟨⟨.c16, 1, 15, 0, 0⟩, .claim [0, 1, 2, 3, 4, 5, 6, 255]⟩
    ∧ Frame.validFor 2 ⟨⟨.c32, 1, 30, 0, 0⟩, .release [0]⟩ ∧ Frame.validFor 2 ⟨⟨.c32, 1, 31, 0, 0⟩, .leave⟩ := by
  decide +kernel

theorem witness_ValidFramePassesChecks : Frame.read 61 largest.bytes false = some largest := by decide +kernel

/-- A kind, a cycle code and a sender that the header may not carry, each closed by a correct CRC (R11). -/
theorem test_invalid_header :
    let closed := fun (bytes : List Byte) => bytes ++ wordBytes (crc bytes)
    Frame.read 12 (closed [0x41, 5, 14, 1, 0, 5]) false = some ⟨⟨.c16, 5, 14, 256, 5⟩, .leave⟩
    ∧ Frame.read 12 (closed [0x51, 5, 14, 1, 0, 5]) false = none ∧ Frame.read 12 (closed [0x01, 5, 14, 1, 0, 5]) false = none
    ∧ Frame.read 12 (closed [0x44, 5, 14, 1, 0, 5]) false = none ∧ Frame.read 12 (closed [0x40, 5, 14, 1, 0, 5]) false = none
    ∧ Frame.read 12 (closed [0x41, 0x64, 14, 1, 0, 5]) false = none := by decide +kernel

theorem witness_HostCommandReadsBack :
    [Instr.append 3 32 (List.replicate 32 1), .append 3 1 [1], .append 0 0 [], .append 0 33 [], .configure fullPool,
      .reset, .unknownCommand 0xFF].all (fun i => i.isTransaction && i.wf) := by decide +kernel

theorem witness_HeldInResetTakesNothing :
    State.held { State.reset with power := ⟨true, true⟩ } ∧ State.held { State.reset with power := ⟨false, false⟩ }
    ∧ State.reset.line.own = none ∧ Instr.join ∉ [Instr.powerOn, .rstnFall, .rstnRise, .supplySettled] := by decide

theorem witness_RefusedCommandChangesNothing :
    Instr.join.isTransaction ∧ s12.PortReady ∧ exec .join s12 = .next (run .join s12)
    ∧ (run .join s12).port.transaction = some ⟨1, [Status.byte .state], .none⟩ ∧ Status.byte .state ≠ Status.byte .ok :=
  ⟨by decide, by decide, rfl, by decide +kernel, by decide⟩

/-- A pool of 257 bytes or more, and an own address above 62. -/
def overPool : ConfigureArgs := { fullPool with lane3 := ⟨2, 0, 8, 32, 0⟩ }
def address63 : ConfigureArgs := { fullPool with address := 63 }
def address4 : ConfigureArgs := { fullPool with address := 4, code := 1 }

theorem witness_ConfigureInstalls : s12.PortReady ∧ s12.station.life ∉ [.unconfigured, .offline]
    ∧ State.reset.PortReady ∧ State.reset.station.life ∈ [.unconfigured, .offline] ∧ fullPool.Accepted
    ∧ ¬ overPool.Accepted ∧ ¬ address63.Accepted ∧ address4.Accepted :=
  ⟨by decide, by decide, by decide, by decide, by decide +kernel, by decide +kernel, by decide +kernel, by decide +kernel⟩

theorem witness_JoinStartsListening : s12.PortReady ∧ s12.station.life ≠ .offline ∧ offline12.PortReady
    ∧ offline12.station.life = .offline := by decide

theorem witness_LeaveByState : offline12.PortReady ∧ offline12.station.life ∈ [.unconfigured, .offline, .leaving, .fault]
    ∧ listening12.PortReady ∧ listening12.station.life ∈ [.listening, .waiting, .joining]
    ∧ s12.PortReady ∧ s12.station.life = .joined ∧ s12.sched.claim = none
    ∧ claiming12.PortReady ∧ claiming12.station.life = .joined
    ∧ claiming12.sched.claim = some ⟨.reservation 0, .unsent⟩ := by decide +kernel

/-- Station 12 with eight entries, four of them own, and as many FREE ones as the most a RESERVE asks for. -/
def four12 : State :=
  { s12 with sched.slots := List.replicate 4 (.ownHeld .shared false 0) ++ List.replicate 6 (.barred 1)
      ++ List.replicate 4 .free }

/-- Each check of R61 fails at one state and operand that pass those before it. -/
theorem witness_ReserveRefusedInOrder :
    offline12.PortReady ∧ ¬ offline12.station.life = .joined
    ∧ s12.station.life = .joined ∧ ¬ ((4 : Byte).toNat ≤ 3) ∧ (s12.lane 3).config = none ∧ (s12.lane 2).config ≠ none
    ∧ ¬ (1 ≤ (0 : Byte).toNat) ∧ ¬ ((5 : Byte).toNat ≤ 4)
    ∧ claiming12.sched.claim ≠ none ∧ State.PortReady { s12 with timer.relearnHold := 1 }
    ∧ ¬ (State.ownSlots { four12 with sched.slots := List.replicate 5 (.ownHeld .shared false 0) } + 4 ≤ 8)
    ∧ ¬ (4 ≤ four12.sched.slots.dropLast.count .free)
    ∧ four12.ownSlots + 4 ≤ 8 := by decide +kernel

theorem witness_ReserveClaimsLowestFree : four12.PortReady ∧ four12.station.life = .joined ∧ (2 : Byte).toNat ≤ 3
    ∧ (four12.lane (2 : Byte).toNat).config ≠ none ∧ 1 ≤ (4 : Byte).toNat ∧ (4 : Byte).toNat ≤ 4
    ∧ four12.sched.claim = none ∧ four12.timer.relearnHold = 0 ∧ four12.sender.queue.length < 4
    ∧ four12.sched.slots.countP Entry.isOwn + (4 : Byte).toNat ≤ 8
    ∧ (4 : Byte).toNat ≤ four12.sched.slots.count .free := by decide +kernel

/-- RELEASE frames in the queue: the newest with room for two more slots, or with room for one. -/
theorem witness_ReleaseFreesBoundSlots :
    let freed := [1, 2]
    offline12.PortReady ∧ offline12.station.life ≠ .joined ∧ s12.PortReady ∧ s12.station.life = .joined
    ∧ (∃ e ∈ claiming12.sched.slots, e = .ownClaiming (.lane 0) false none)
    ∧ ((List.range s12.sched.slots.length).filter fun k => match s12.entry k with
        | .ownHeld b false _ | .ownYielding b false _ _ => b == .lane 0
        | _ => false) = freed
    ∧ (∀ e ∈ s12.sched.slots, e.binding? ≠ some (.lane 2))
    ∧ (List.range 6).length + freed.length ≤ 8 ∧ ¬ (List.range 7).length + freed.length ≤ 8
    ∧ s12.headOnLine = false ∧ s12.sender.queue.length < 4
    ∧ State.headOnLine (sending12 (.control ⟨.release, [9]⟩ false) s12) := by decide +kernel

theorem witness_LaneCommandsChecked : offline12.PortReady
    ∧ offline12.laneRefusal [.listening, .waiting, .joining, .joined] 0 = some .state
    ∧ s12.laneRefusal [.listening, .waiting, .joining, .joined] 4 = some .arg
    ∧ s12.laneRefusal [.listening, .waiting, .joining, .joined] 3 = some .state
    ∧ leaving12.laneRefusal [.listening, .waiting, .joining, .joined] 0 = some .state
    ∧ leaving12.laneRefusal [.listening, .waiting, .joining, .joined, .leaving, .fault] 255 = some .arg := by
  decide +kernel

/-- Lane 0 of station 12 with positions of its own. -/
def loaded12 (ps : List Position) : State := { s12 with tx.lanes := [laneOf 20 1 16 32 ps, noLane, noLane, noLane] }

/-- A lane of depth 2 takes 16 bytes into an empty position, 2 bytes onto 14, and refuses 17 and 3 onto 14. -/
theorem witness_AppendAndCommitLoad :
    let part : Position := ⟨List.replicate 14 1, none, .loading⟩
    let whole : Position := ⟨[1], none, .committed⟩
    (loaded12 [whole, part]).PortReady
    ∧ (loaded12 [whole, part]).laneRefusal [.listening, .waiting, .joining, .joined] 0 = none
    ∧ ((loaded12 [whole, part]).lane 0).config = some ⟨20, 1, 16, 32, true⟩
    ∧ ((loaded12 [whole, part]).lane 0).positions = [whole] ++ [⟨List.replicate 14 1, none, .loading⟩]
    ∧ 14 + 2 ≤ 16 ∧ 16 < 14 + 3 ∧ (2 : Byte).toNat = 2 ∧ (33 : Byte).toNat = 33 ∧ (0 : Byte).toNat = 0
    ∧ (∀ p ∈ ((loaded12 [whole]).lane 0).positions, p.phase ≠ .loading) ∧ [whole].length < 2
    ∧ (∀ p ∈ ((loaded12 [whole, whole]).lane 0).positions, p.phase ≠ .loading) := by decide +kernel

theorem witness_FlushAndResumeRestart : halted12.PortReady
    ∧ halted12.laneRefusal [.listening, .waiting, .joining, .joined, .leaving, .fault] 0 = none
    ∧ (halted12.lane 0).halt ≠ none
    ∧ s12.laneRefusal [.listening, .waiting, .joining, .joined, .leaving, .fault] 2 = none
    ∧ (s12.lane 2).halt = none := by decide +kernel

theorem witness_FetchAnswersThenRemoves : State.reset.PortReady ∧ State.reset.station.life = .unconfigured
    ∧ received12.PortReady ∧ received12.station.life ≠ .unconfigured ∧ 3 < (4 : Byte).toNat
    ∧ received12.rxLane (3 : Byte).toNat = []
    ∧ received12.rxLane (1 : Byte).toNat = ⟨20, true, [0xAB, 0xCD], 0x0102⟩ :: []
    ∧ (run (.fetch 1) received12).held = false
    ∧ (run (.fetch 1) received12).port.transaction.map (·.ending) = some (.fetch 1)
    ∧ (run .fetchRemoval (run (.fetch 1) received12)).port.transaction.map (·.ending) = some .none := by decide +kernel

theorem witness_ReadEventAnswersThenRemoves :
    let full := { s12 with port := ⟨List.replicate 16 ⟨.waiting, 7⟩, 255, some ⟨1, [1], .event⟩⟩ }
    s12.PortReady ∧ s12.port.events = [] ∧ full.PortReady ∧ full.port.events = ⟨.waiting, 7⟩ :: full.port.events.tail
    ∧ full.held = false ∧ full.port.transaction = some ⟨1, [1], .event⟩ := by decide +kernel

theorem witness_ReadStatusAndPeerAnswer : s12.PortReady ∧ s12.station.life ≠ .unconfigured
    ∧ State.reset.station.life = .unconfigured
    ∧ ¬ 1 ≤ (0 : Byte).toNat ∧ 1 ≤ (1 : Byte).toNat ∧ (62 : Byte).toNat ≤ 62 ∧ ¬ (63 : Byte).toNat ≤ 62 := by decide +kernel

theorem witness_ReadSlotShowsEntry : s12.PortReady ∧ s12.station.life ≠ .unconfigured ∧ (13 : Byte).toNat < s12.scheduled
    ∧ s12.scheduled ≤ (14 : Byte).toNat ∧ State.reset.PortReady ∧ State.reset.station.life = .unconfigured := by
  decide +kernel

theorem witness_ResetTakenThenActs : s12.PortReady ∧ s12.resetWaits = false ∧ (run .reset s12).held = false
    ∧ (run .reset s12).resetWaits ∧ (run .readStatus s12).PortReady ∧ Instr.readStatus.isTransaction := by decide +kernel

theorem witness_UnknownAndDiscarded : s12.PortReady ∧ Instr.isTransaction (.append 3 32 (List.replicate 32 1))
    ∧ s12.port.transaction = none ∧ State.held { State.reset with power := ⟨true, true⟩ } := by decide

/-- A frame of another cycle code, an invalid one, and one that comes while the station sends. A frame that ends at the
start of the own slot 1 and of a slot of another, in each phase, and one in a slot whose start is not marked. -/
theorem witness_FrameNotHandedOn :
    let last := { in12 with timer.position := 15, timer.lastSlot := some (14, 300) }
    let ended := { last with timer.phase := .ended, timer.lastSlot := some (15, 300) }
    let start := { s12 with timer.position := 1, timer.lastSlot := some (0, 300) }
    (sending12 (.data 0) in12).line.own ≠ none ∧ offline12.active = false
    ∧ Frame.read 12 ((fill 20 4 300 3).set 6 1) false = none ∧ Frame.read 12 (fill 20 4 300 3) true = none
    ∧ Frame.read 12 (fill 20 29 300 3 .c32) false = some ⟨⟨.c32, 20, 29, 300, 3⟩, .data [] none⟩
    ∧ in12.station.code ≠ some .c32 ∧ in12.hears .inSlot ∧ in12.StartBehind .inSlot ∧ ¬ s12.StartBehind .atSlotEnd
    ∧ in12.hears .atSlotEnd ∧ last.hears .overSlotEnd ∧ last.hears .atSlotEnd = false ∧ last.StartBehind .atSlotEnd
    ∧ last.active ∧ last.line.own = none ∧ last.line.atStart = none ∧ start.active
    ∧ start.hears .overSlotEnd = false ∧ ended.hears .overSlotEnd = false ∧ ended.StartBehind .overSlotEnd
    ∧ State.hears { start with timer.position := 4 } .overSlotEnd := by decide +kernel

/-- From a peer that names the reference, and from one that names itself, one cycle apart. -/
theorem witness_MisalignedGivesPresenceOnly :
    in12.Hears (fill 20 4 301 3) false .inSlot ⟨⟨.c16, 20, 4, 301, 3⟩, .data [] none⟩ (4, 300)
    ∧ in12.offered ⟨.c16, 20, 4, 301, 3⟩ = in12.timer.reference ∧ 20 ≠ in12.timer.reference
    ∧ in12.Hears (fill 20 5 300 20) false .inSlot ⟨⟨.c16, 20, 5, 300, 20⟩, .data [] none⟩ (4, 300)
    ∧ in12.timer.reference < in12.offered ⟨.c16, 20, 5, 300, 20⟩
    ∧ ((4, 300) : Nat × CycleNum) ≠ (4, 301) ∧ ((4, 300) : Nat × CycleNum) ≠ (5, 300)
    ∧ ¬ (in12.station.life = .listening ∧ in12.timer.acquired = false) := by decide +kernel

/-- Station 12, listening with its timing acquired, with a peer's slot learned. -/
def acquired12 : State :=
  { station 12 .listening 3 4 300 [3] [.peerHeld 3 0] with timer.phase := .running, station.listenCount := 1 }

/-- From the reference, from a lower one in a held slot, a CLAIM, and in LISTENING. -/
theorem witness_MisalignedReferenceResyncs :
    let c : Frame := ⟨⟨.c16, 3, 14, 300, 3⟩, .claim [0, 13]⟩
    in12.Hears (fill 3 5 300 3) false .inSlot ⟨⟨.c16, 3, 5, 300, 3⟩, .data [] none⟩ (4, 300)
    ∧ in12.offered ⟨.c16, 3, 5, 300, 3⟩ = in12.timer.reference ∧ (in12.entry 5).isOwn = false
    ∧ in12.Hears (fill 2 0 300 2) false .inSlot ⟨⟨.c16, 2, 0, 300, 2⟩, .data [] none⟩ (4, 300)
    ∧ in12.offered ⟨.c16, 2, 0, 300, 2⟩ < in12.timer.reference ∧ (in12.entry 0).isHeld
    ∧ in12.Hears c.bytes false .inSlot c (4, 300) ∧ in12.offered c.header = in12.timer.reference
    ∧ acquired12.Hears c.bytes false .inSlot c (4, 300) ∧ acquired12.offered c.header = acquired12.timer.reference
    ∧ acquired12.station.life = .listening ∧ ¬ (acquired12.station.life = .listening ∧ acquired12.timer.acquired = false)
    ∧ ¬ (in12.station.life = .listening ∧ in12.timer.acquired = false) ∧ ((4, 300) : Nat × CycleNum) ≠ (5, 300) := by
  decide +kernel

theorem witness_FirstFrameAdopted :
    let leave : Frame := ⟨⟨.c16, 3, 15, 0, 3⟩, .leave⟩
    listening12.Hears (fill 62 13 0xFFFF 62) false .inSlot ⟨⟨.c16, 62, 13, 0xFFFF, 62⟩, .data [] none⟩ (4, 300)
    ∧ listening12.station.life = .listening ∧ listening12.timer.acquired = false
    ∧ (listening12.entry 13).isOwn = false ∧ 12 < listening12.offered ⟨.c16, 62, 13, 0xFFFF, 62⟩
    ∧ listening12.Hears leave.bytes false .atSlotEnd leave (4, 300)
    ∧ listening12.offered ⟨.c16, 3, 13, 0xFFFF, 3⟩ < 12 := by decide +kernel

/-- An aligned frame with a lower candidate, with the reference itself, and in a slot the station holds. -/
theorem witness_AlignedDataFrameLearned :
    in12.Hears (fill 2 4 300 2) false .atSlotEnd ⟨⟨.c16, 2, 4, 300, 2⟩, .data [] none⟩ (4, 300)
    ∧ in12.offered ⟨.c16, 2, 4, 300, 2⟩ < in12.timer.reference
    ∧ in12.offered ⟨.c16, 20, 4, 300, 3⟩ = in12.timer.reference ∧ (in12.entry 4).isOwn = false
    ∧ State.Hears { in12 with timer.position := 1 } (fill 3 1 300 3) false .inSlot
        ⟨⟨.c16, 3, 1, 300, 3⟩, .data [] none⟩ (1, 300)
    ∧ (in12.entry 1).isHeld ∧ ¬ (in12.station.life = .listening ∧ in12.timer.acquired = false) := by decide +kernel

/-- A DATA frame with an ack entry and a packet, a CLAIM, and a RELEASE with a lower candidate. -/
theorem witness_AlignedFrameStages :
    let f : Frame := ⟨⟨.c16, 20, 4, 300, 3⟩, .data [⟨12, 1, 6, true⟩] (some ⟨12, 1, 5, true, [1]⟩)⟩
    let c : Frame := ⟨⟨.c16, 62, 15, 300, 62⟩, .claim [13, 13]⟩
    let r : Frame := ⟨⟨.c16, 2, 15, 300, 2⟩, .release [0]⟩
    in12.Hears f.bytes false .inSlot f (4, 300) ∧ in12.timer.reference ≤ in12.offered f.header
    ∧ State.Hears { in12 with timer.position := 15 } c.bytes false .inSlot c (15, 300)
    ∧ in12.timer.reference ≤ in12.offered c.header
    ∧ State.Hears { in12 with timer.position := 15 } r.bytes false .inSlot r (15, 300)
    ∧ in12.offered r.header < in12.timer.reference
    ∧ ¬ (in12.station.life = .listening ∧ in12.timer.acquired = false) := by decide +kernel

/-- From the reference, from an ABSENT higher station, and from an ABSENT lower one. -/
theorem witness_LeaveFrameTaken :
    let s := { in12 with timer.position := 14 }
    let leave := fun x => Frame.bytes ⟨⟨.c16, x, 14, 300, 3⟩, .leave⟩
    s.Hears (leave 3) false .inSlot ⟨⟨.c16, 3, 14, 300, 3⟩, .leave⟩ (14, 300)
    ∧ s.timer.reference ≤ s.offered ⟨.c16, 3, 14, 300, 3⟩ ∧ (s.peer 3).present
    ∧ s.Hears (leave 62) false .inSlot ⟨⟨.c16, 62, 14, 300, 3⟩, .leave⟩ (14, 300)
    ∧ s.timer.reference ≤ s.offered ⟨.c16, 62, 14, 300, 3⟩ ∧ (s.peer 62).present = false
    ∧ s.Hears (Frame.bytes ⟨⟨.c16, 1, 14, 300, 1⟩, .leave⟩) false .atSlotEnd ⟨⟨.c16, 1, 14, 300, 1⟩, .leave⟩ (14, 300)
    ∧ s.offered ⟨.c16, 1, 14, 300, 1⟩ < s.timer.reference ∧ (s.peer 1).present = false
    ∧ ¬ (s.station.life = .listening ∧ s.timer.acquired = false) := by decide +kernel

theorem witness_ClaimFrameLearned : s12.scheduled ≤ 14 ∧ 13 < s12.scheduled ∧ [0, 13, 255].Nodup
    ∧ ([4, 8] ++ 4 :: [9] : List Nat) = [4, 8, 4, 9] ∧ 4 ∈ [4, 8] ∧ claiming12.entry 8 = .ownClaiming (.lane 0) false none
    ∧ 11 < claiming12.station.address := by decide +kernel

theorem witness_ReleaseAndLeaveLearned : s12.sched.slots.length = s12.scheduled := by decide +kernel

/-- Yielding and claiming slots with and without another entry that holds or claims. -/
theorem witness_OwnSlotLost :
    let lastHome : State := { s12 with sched.slots := (List.replicate 14 .free).set 2 (.ownYielding .shared true 2 8) }
    let passed : State := { lastHome with sched.slots := lastHome.sched.slots.set 13 (.ownHeld .shared false 0) }
    let two : State := { claiming12 with
      sched.slots := claiming12.sched.slots.set 9 (.ownClaiming (.lane 0) false none)
      sender.queue := [⟨.release, [4]⟩, ⟨.claim, [8, 9]⟩] }
    let reserving := fun phase => { lastHome with
      sched := ⟨lastHome.sched.slots.set 13 (.ownClaiming (.lane 0) false none), some ⟨.reservation 0, phase⟩⟩ }
    let unsent : State := { reserving .unsent with sender := ⟨[⟨.claim, [13]⟩, ⟨.release, [4]⟩], some ⟨0, 2, 0⟩, 21⟩ }
    (unsent.entry 2 = .ownYielding .shared true 2 8 ∧ unsent.sched.claim = some ⟨.reservation 0, .unsent⟩
      ∧ (∀ k < 14, k ≠ 2 → (unsent.entry k).isHeld = false) ∧ unsent.ClaimQueued [] [13] [⟨.release, [4]⟩]
      ∧ State.sched (reserving (.announced true)) = { unsent.sched with claim := some ⟨.reservation 0, .announced true⟩ }
      ∧ lastHome.sender.queue = [])
    ∧ (claiming12.entry 8 = .ownClaiming (.lane 0) false none ∧ claiming12.ClaimQueued [] [8] []
      ∧ claiming12.sched.claim = some ⟨.reservation 0, .unsent⟩
      ∧ (joining12 .unsent none).entry 4 = .ownClaiming .shared true none ∧ (joining12 .unsent none).ClaimQueued [] [4] []
      ∧ (joining12 .unsent none).sched.claim = some ⟨.home, .unsent⟩)
    ∧ 2 < s12.scheduled ∧ s12.entry 2 = .ownYielding (.lane 0) false 1 1
    ∧ passed.entry 2 = .ownYielding .shared true 2 8 ∧ passed.entry 13 = .ownHeld .shared false 0
    ∧ (∀ k < 13, (passed.entry k).isHeld = false)
    ∧ lastHome.entry 2 = .ownYielding .shared true 2 8 ∧ (∀ k < 14, k ≠ 2 → (lastHome.entry k).isHeld = false)
    ∧ lastHome.station.life = .joined ∧ lastHome.sched.claim = none
    ∧ State.scheduled { lastHome with station.life := .leaving } = 14
    ∧ two.entry 8 = .ownClaiming (.lane 0) false none ∧ (two.entry 9).isClaiming
    ∧ two.sched.claim = some ⟨.reservation 0, .unsent⟩ ∧ two.ClaimQueued [⟨.release, [4]⟩] [8, 9] [] ∧ [8, 9].filter (· ≠ 8) ≠ []
    ∧ (∀ k < 14, k ≠ 8 → (claiming12.entry k).isClaiming = false)
    ∧ (joining12 (.announced false) (some 1)).sched.claim = some ⟨.home, .announced false⟩
    ∧ (∀ k < 14, k ≠ 4 → ((joining12 (.announced false) (some 1)).entry k).isClaiming = false) := by decide +kernel

/-- A claimed slot lost to a CLAIM from the address below the own one. -/
theorem witness_OwnSlotLost_claim : 8 < claiming12.scheduled ∧ (claiming12.entry 8).isClaiming
    ∧ 11 < claiming12.station.address ∧ (claiming12.learnClaim 11 8).entry 8 = .peerPending 11 6 := by decide +kernel

/-- Station 12 with the absence of a peer due. -/
def silent12 (p : Nat) (life : StationState) : State :=
  { s12.setPeer p ⟨true, 15, true⟩ with station.life := life, timer.due := [.absence p] }

theorem witness_PeerAbsenceTaken :
    (silent12 20 .joined).active ∧ (silent12 20 .joined).tx.lanes.length = 4
    ∧ (silent12 20 .joined).nextAbsence = some 20 ∧ (silent12 20 .joined).timer.absencesDue = [20] ∧ ((silent12 20 .joined).peer 20).present
    ∧ 15 ≤ ((silent12 20 .joined).peer 20).silence ∧ (silent12 20 .joined).timer.reference ≠ 20
    ∧ (silent12 3 .joined).nextAbsence = some 3 ∧ (silent12 3 .joined).timer.reference = 3
    ∧ (silent12 3 .listening).active ∧ (silent12 3 .listening).station.life = .listening := by decide +kernel

/-- Contexts of the pair (20, 1), expecting 6, and a receive lane with one record and with two. -/
theorem witness_UnicastJudged :
    let s := { s12 with
      delivery.contexts := s12.delivery.contexts.set (contextIndex 20 1) (some 6)
      rx.lanes := [[], [⟨20, false, [1], 0⟩], [⟨20, false, [1], 0⟩, ⟨20, false, [1], 0⟩], []] }
    s.station.life = .joined ∧ offline12.station.life ≠ .joined
    ∧ s.delivery.contexts.getD ((20 - 1) * 4 + 1) none = some 6
    ∧ s.delivery.contexts.getD ((20 - 1) * 4 + 2) none = none
    ∧ (s.rxLane 1).length < 2 ∧ 2 ≤ (s.rxLane 2).length
    ∧ ((5 : Seq) + 1 = 6 ∧ (5 : Seq) = 6 - 1 ∧ (4 : Seq) = 6 - 2) ∧ (7 : Seq) = 1 - 2
    ∧ ((3 : Seq) ≠ 6 ∧ (3 : Seq) ≠ 6 - 1 ∧ (3 : Seq) ≠ 6 - 2) ∧ 63 ≠ s.station.address := by decide +kernel

theorem witness_BroadcastJudged : s12.station.address ≤ 62 ∧ s12.station.life = .joined ∧ (s12.rxLane 3).length < 2
    ∧ offline12.station.life ≠ .joined
    ∧ 2 ≤ (State.rxLane { s12 with rx.lanes := [[⟨3, true, [1], 0⟩, ⟨3, true, [1], 0⟩], [], [], []] } 0).length := by
  decide +kernel

/-- A full list of eight owed acks, with and without an entry of the pair. -/
theorem witness_AckOwedPlaced :
    let owed := (List.range 8).map fun p => AckEntry.mk (p + 1) 0 0 false
    Delivery.InRange ⟨[], owed⟩ ∧ owed = owed.take 7 ++ ⟨8, 0, 0, false⟩ :: []
    ∧ (∀ o ∈ owed.take 7, (o.station, o.channel) ≠ (8, 0)) ∧ 8 ≤ owed.length
    ∧ (∀ o ∈ owed, (o.station, o.channel) ≠ (8, 1)) ∧ (owed.take 7).length < 8 := by decide +kernel

/-- Lane 0 with sequences 5 and 6 sent, and the busy count one below its limit. -/
theorem witness_AckApplied :
    let sent := fun q => Position.mk [1] (some q) (.sent false 0 304 false)
    let s := { loaded12 [] with tx.lanes := [{ laneOf 20 1 16 32 [sent 5, sent 6] with busyCount := 63 }, noLane, noLane, noLane] }
    s.tx.lanes.length = 4 ∧ (AckEntry.mk 12 1 6 true).station = s.station.address
    ∧ (AckEntry.mk 20 1 6 true).station ≠ s.station.address
    ∧ (∀ k < 4, (s.lane k).config.map (·.channel) ≠ some 2)
    ∧ (s.lane 0).config = some ⟨20, 1, 16, 32, true⟩ ∧ (sent 5).coveredBy 6 ∧ (sent 6).sentWith 6
    ∧ (sent 5).sentWith 5 ∧ (sent 5).coveredBy 5 = false ∧ (s.lane 0).busyCount + 1 = 64 ∧ (s.lane 0).halt = none := by
  decide +kernel

theorem witness_EventPosted :
    let full := { s12 with port := ⟨List.replicate 16 ⟨.waiting, 7⟩, 254, none⟩ }
    s12.port.events.length < 16 ∧ 16 ≤ full.port.events.length
    ∧ full.port.lost < 255 ∧ s12.held = false
    ∧ received12.port.events = [] ∧ State.intLow { received12 with rx.notify := [false, true, false, false] }
    ∧ State.intLow { received12 with rx.notify := [true, false, true, true] } = false := by decide +kernel

theorem witness_HeldSlotFilled :
    let at0 := { s12 with timer.position := 0 }
    let out := { leaving12 with timer.position := 0 }
    s12.SlotStarts ∧ s12.station.code = some .c16 ∧ s12.timer.position < CycleCode.c16.scheduled
    ∧ (s12.entry 4).isHeld = false ∧ State.timer { s12 with timer.position := 13 } = { s12.timer with position := 13 }
    ∧ at0.SlotStarts ∧ (at0.entry 0).isHeld ∧ at0.station.life = .joined ∧ (∀ l < 4, at0.eligible l = false)
    ∧ out.SlotStarts ∧ (out.entry 0).isHeld ∧ out.station.life = .leaving ∧ out.line.atStart = none
    ∧ State.SlotStarts { out with line.atStart := some .taken }
    ∧ State.SlotStarts { out with line.atStart := some (.underWay (fill 20 15 299 3)) } := by decide +kernel

/-- No lane above 3 is eligible at a station with four lanes. -/
theorem witness_HeldSlotFilled_no_lane : ∀ l, State.eligible { s12 with timer.position := 0 } l = false := by
  intro l
  by_cases h : l < 4
  · exact (by decide +kernel : ∀ l < 4, State.eligible { s12 with timer.position := 0 } l = false) l h
  · have hl : State.lane { s12 with timer.position := 0 } l = noLane := by
      have : s12.tx.lanes.length ≤ l := Nat.le_of_not_lt h
      simp [State.lane, noLane, this]
    simp [State.eligible, hl, noLane, TxLane.ready]

/-- A committed packet and one that is retransmit-eligible, in a bound slot and in a shared one. -/
theorem witness_PacketSent :
    let p : Position := ⟨[1], none, .committed⟩
    let again : Position := ⟨[1], some 7, .sent true 5 300 true⟩
    let bound := served20 5 3 [noLane, laneOf 12 1 32 64 [again, p] 2, noLane, noLane]
    let shared := served20 2 3 [noLane, noLane, noLane, laneOf 63 3 8 32 [p] 7]
    bound.SlotStarts ∧ bound.station.code = some .c16 ∧ bound.timer.position < CycleCode.c16.scheduled
    ∧ bound.line.atStart ≠ some .taken ∧ shared.line.atStart = none ∧ bound.station.life = .joined ∧ bound.entry 5 = .ownHeld (.lane 1) false 0
    ∧ (bound.lane 1).config = some ⟨12, 1, 32, 64, true⟩ ∧ bound.eligible 1 ∧ (bound.lane 1).Chooses 0 again
    ∧ shared.SlotStarts ∧ shared.entry 2 = home ∧ shared.eligible 3 ∧ (shared.lane 3).Chooses 0 p ∧ shared.FirstShared 3
    ∧ State.FirstShared { shared with timer.position := 9 } 3 ∧ shared.eligible 0 = false := by decide +kernel

theorem witness_OpenSlotActs :
    let s := { claiming12 with timer.position := 14 }
    s.SlotStarts ∧ s.station.code = some .c16 ∧ CycleCode.c16.scheduled ≤ s.timer.position
    ∧ s.station.life ∈ [.joining, .joined, .leaving] ∧ s.sender.queue = ⟨.claim, [8]⟩ :: []
    ∧ s.sender.attempt = some ⟨0, 2, 0⟩ ∧ s.timer.relearnHold = 0
    ∧ State.SlotStarts { s with timer.position := 15, timer.relearnHold := 1 }
    ∧ State.SlotStarts { s with sender.attempt := some ⟨5, 16, 15⟩ }
    ∧ State.SlotStarts { s12 with timer.position := 15 } ∧ s12.sender.queue = [] ∧ s.line.atStart ≠ some .taken
    ∧ State.SlotStarts { s with line.atStart := some .taken } := by decide +kernel

/-- A DATA frame on the line in a slot of each round, with the line-fault count at 6. -/
theorem witness_DataFrameResult :
    let s := fun e => { sending12 (.data 2) (station 12 .joined 3 2 300 [3] [home, .free, e]) with line.faultCount := 6 }
    let alone := fun life => { sending12 (.data 2) (station 12 life 3 2 300 [3] [.free, .free, .ownHeld .shared true 2]) with
      line.faultCount := 6 }
    (s home).line.own = some ⟨.data 2, [0], .clean, false⟩ ∧ (s home).line.faultCount < 7
    ∧ (s (.ownHeld .shared false 0)).entry 2 = .ownHeld .shared false 0
    ∧ (s (.ownHeld .shared false 1)).entry 2 = .ownHeld .shared false 1
    ∧ (s (.ownHeld .shared false 2)).entry 2 = .ownHeld .shared false 2
    ∧ ((s (.peerHeld 3 0)).entry 2).isHeld = false
    ∧ (s (.ownHeld .shared true 2)).entry 2 = .ownHeld .shared true 2 ∧ (s (.ownHeld .shared true 2)).entry 0 = home
    ∧ (alone .leaving).entry 2 = .ownHeld .shared true 2 ∧ (∀ k < 14, k ≠ 2 → ((alone .leaving).entry k).isHeld = false)
    ∧ (alone .joined).station.life = .joined ∧ (alone .joined).sched.claim = none
    ∧ State.ClaimQueued { alone .joined with sender.queue := [⟨.release, [4]⟩, ⟨.claim, [9]⟩] } [⟨.release, [4]⟩] [9] []
    ∧ (alone .joined).sender.queue = [] := by decide +kernel

/-- A control frame on the line at its first and at its sixth attempt, of each kind, and a replaced one. -/
theorem witness_ControlFrameResult :
    let claim := sending12 (.control ⟨.claim, [8]⟩ false) claiming12
    let last := { claim with sender.attempt := some ⟨5, 16, 0⟩, line.faultCount := 6 }
    let homeClaim := sending12 (.control ⟨.claim, [4]⟩ false) (joining12 .unsent none)
    let leave := sending12 (.control ⟨.leave, []⟩ false) leaving12
    let release := { sending12 (.control ⟨.release, [9]⟩ false) s12 with sender := ⟨[⟨.release, [9]⟩], some ⟨4, 16, 0⟩, 0⟩ }
    let replaced := sending12 (.control ⟨.claim, [8]⟩ true) leaving12
    claim.line.own = some ⟨.control ⟨.claim, [8]⟩ false, [0], .clean, false⟩
    ∧ claim.sched.claim = some ⟨.reservation 0, .unsent⟩ ∧ claim.sender.attempt = some ⟨0, 2, 0⟩ ∧ claim.line.faultCount < 7
    ∧ last.sender.attempt = some ⟨5, 16, 0⟩ ∧ last.line.faultCount < 7
    ∧ homeClaim.line.own = some ⟨.control ⟨.claim, [4]⟩ false, [0], .clean, false⟩
    ∧ homeClaim.sched.claim = some ⟨.home, .unsent⟩
    ∧ leave.line.own = some ⟨.control ⟨.leave, []⟩ false, [0], .clean, false⟩
    ∧ release.line.own = some ⟨.control ⟨.release, [9]⟩ false, [0], .clean, false⟩
    ∧ release.sender.attempt = some ⟨4, 16, 0⟩
    ∧ replaced.line.own = some ⟨.control ⟨.claim, [8]⟩ true, [0], .clean, false⟩
    ∧ (State.moveOffline claim .host).line.own = some ⟨.control ⟨.claim, [8]⟩ false, [0], .clean, true⟩ := by decide +kernel

theorem witness_EighthFailureFaults :
    let s := { sending12 (.control ⟨.claim, [8]⟩ false) claiming12 with line.faultCount := 7 }
    s.line.own = some ⟨.control ⟨.claim, [8]⟩ false, [0], .clean, false⟩ ∧ s.line.faultCount = 7
    ∧ s.sched.claim = some ⟨.reservation 0, .unsent⟩ := by decide +kernel

/-- The end of slot S-1 of C16, with and without a count still due, and a slot before it. -/
theorem witness_CycleStartCounts :
    let last := { s12 with timer.position := 15, timer.phase := .ended }
    last.active ∧ last.timer.phase = .ended ∧ last.timer.due = [] ∧ s12.timer.phase ≠ .ended
    ∧ State.active { last with timer.due := [.barExpire 6] }
    ∧ (State.catchUp { last with timer.due := [.barExpire 6] }).active := by decide +kernel

theorem witness_SlotEndCounts : in12.active ∧ in12.timer.phase = .running ∧ in12.timer.due = []
    ∧ s12.active ∧ s12.timer.phase = .starting
    ∧ State.active { in12 with timer.due := [.waitingPick, .barExpire 6] }
    ∧ (State.catchUp { in12 with timer.due := [.waitingPick, .barExpire 6] }).active
    ∧ State.active { leaving12 with timer.phase := .running, timer.due := [.leaveTimeout] }
    ∧ (State.catchUp { leaving12 with timer.phase := .running, timer.due := [.leaveTimeout] }).active = false
    ∧ in12.entry 3 = .peerHeld 20 7 ∧ in12.entry 7 = .peerHeld 3 0 ∧ in12.entry 2 = .ownYielding (.lane 0) false 1 1
    ∧ (15 + 1 < in12.slotCount) = False ∧ 14 + 1 < in12.slotCount ∧ offline12.active = false := by decide +kernel

theorem witness_CountsTakeLastStep :
    let s := { s12 with
      timer.due := [.lapse 3, .yieldEnd 2, .pendingExpiry 5, .barExpire 6, .relearnHold, .busyHold 3]
      timer.relearnHold := 1
      tx.lanes := [noLane, noLane, noLane, { laneOf 20 0 8 32 [] with busyHold := 1 }] }
    s.active ∧ s.entry 3 = .peerHeld 20 7 ∧ s.entry 2 = .ownYielding (.lane 0) false 1 1 ∧ s.entry 5 = .peerPending 20 1
    ∧ s.entry 6 = .barred 1 ∧ s.timer.relearnHold = 1 ∧ (s.lane 3).busyHold = 1
    ∧ Due.settle ∉ s.timer.due ∧ Due.lapse 4 ∉ s.timer.due := by decide +kernel

theorem witness_SettleWins :
    let s := { s12 with
      sched := ⟨s12.sched.slots.set 8 (.ownClaiming (.lane 0) false (some 1)), some ⟨.reservation 1, .announced false⟩⟩
      timer.due := [.settle] }
    let h := { joining12 (.announced false) (some 1) with timer.due := [.settle] }
    s.active ∧ .settle ∈ s.timer.due ∧ s.sched.slots.any Entry.settles
    ∧ s.sched.claim = some ⟨.reservation 1, .announced false⟩
    ∧ h.active ∧ .settle ∈ h.timer.due ∧ h.sched.slots.any Entry.settles
    ∧ h.sched.claim = some ⟨.home, .announced false⟩ ∧ h.sched.slots.findIdx? Entry.isHome = some 4 := by decide +kernel

theorem witness_StationCountsEnd :
    let l := { listening12 with timer.due := [.listenEnd] }
    let w := { s12 with station.life := .waiting, timer.due := [.waitingPick], sched.slots := List.replicate 14 (.peerHeld 3 0) }
    let o := { leaving12 with timer.due := [.leaveTimeout] }
    l.active ∧ .listenEnd ∈ l.timer.due ∧ l.station.life = .listening ∧ l.station.restartMark = false
    ∧ l.station.listenCount ≤ 1 ∧ 0 < l.sched.slots.length ∧ l.entry 0 = .free ∧ l.sender.queue.length < 4
    ∧ w.active ∧ .waitingPick ∈ w.timer.due ∧ w.station.life = .waiting ∧ (∀ e ∈ w.sched.slots, e ≠ .free)
    ∧ o.active ∧ .leaveTimeout ∈ o.timer.due ∧ o.station.life = .leaving ∧ o.station.leaveCount ≤ 1 := by decide +kernel

/-- Two lanes at the retry limit at one cycle start, the first with its second deadline; one below it, and one halted
already. -/
theorem witness_DeadlineTaken :
    let p := fun q r => Position.mk [1] (some q) (.sent false r 300 false)
    let s := { s12 with
      timer.due := [.deadline 0 5, .deadline 0 6, .deadline 1 5, .deadline 2 5, .deadline 3 5]
      tx.lanes := [laneOf 20 1 16 32 [p 5 0, p 6 6], laneOf 20 2 16 32 [p 5 6], laneOf 3 0 16 32 [p 5 5],
        { laneOf 3 1 16 32 [p 5 6] with halt := some .absent }] }
    s.active ∧ s.nextDeadline 0 = some 5 ∧ 3 < s.tx.lanes.length
    ∧ (s.lane 0).positions[0]? = some ⟨[1], some 5, .sent false 0 s.timer.cycle false⟩
    ∧ (s.lane 0).config ≠ none ∧ (s.lane 0).halt = none ∧ .deadline 0 6 ∈ s.timer.due
    ∧ p 6 6 ∈ (s.lane 0).positions ∧ (p 6 6).reached s.timer.cycle ∧ (p 6 6).spent
    ∧ State.nextDeadline { s with timer.due := s.timer.due.erase (.deadline 0 5) } 0 = some 6
    ∧ s.nextDeadline 1 = some 5 ∧ (s.lane 1).positions[0]? = some ⟨[1], some 5, .sent false 6 s.timer.cycle false⟩
    ∧ (s.lane 1).config ≠ none ∧ (s.lane 1).halt = none
    ∧ (s.lane 2).positions[0]? = some ⟨[1], some 5, .sent false 5 s.timer.cycle false⟩
    ∧ s.station.life ∈ [.joined, .leaving] ∧ s.nextDeadline 3 = some 5 ∧ (s.lane 3).halt ≠ none := by decide +kernel

end Sys2Proof.Tests
end

/-!
PROOFS. The slot schedule: what an aligned RELEASE and an aligned LEAVE do to the table (R46, R47).
-/

namespace Sys2Proof.Machine

/-! ### A received slot list (R8, R42) -/

theorem eachOnce_concat (slots : List Nat) (n : Nat) :
    eachOnce (slots ++ [n]) = if n ∈ eachOnce slots then eachOnce slots else eachOnce slots ++ [n] := by
  simp [eachOnce]

/-- Taking each number once drops repeats alone. -/
@[simp] theorem mem_eachOnce (n : Nat) (slots : List Nat) : n ∈ eachOnce slots ↔ n ∈ slots := by
  induction slots using List.reverseRecOn with
  | nil => simp [eachOnce]
  | append_singleton slots m ih =>
    rw [eachOnce_concat]
    split
    · next hm =>
      have repeated : n = m → n ∈ slots := fun hn => ih.1 (hn ▸ hm)
      simpa [ih] using repeated
    · simp [ih]

/-! ### The entries a peer gives up -/

@[simp] theorem Entry.peer?_free : Entry.free.peer? = none := rfl

/-- Every listed entry that `x` owns becomes FREE: the effect of a whole RELEASE list, which `foldl_learnRelease` ties
to the model. -/
def State.freeListed (s : State) (x : Nat) (slots : List Nat) : State :=
  { s with sched.slots := s.sched.slots.mapIdx fun n e => if n ∈ slots ∧ e.peer? = some x then .free else e }

@[simp] theorem State.freeListed_scheduled (s : State) (x : Nat) (slots : List Nat) :
    (s.freeListed x slots).scheduled = s.scheduled := rfl

@[simp] theorem State.freeListed_length (s : State) (x : Nat) (slots : List Nat) :
    (s.freeListed x slots).sched.slots.length = s.sched.slots.length := by
  simp [State.freeListed]

/-- A list of which `x` owns nothing frees nothing. -/
theorem State.freeListed_of_none_owned {s : State} {x : Nat} {slots : List Nat}
    (h : ∀ n ∈ slots, (s.entry n).peer? ≠ some x) : s.freeListed x slots = s := by
  have same : (s.sched.slots.mapIdx fun n e => if n ∈ slots ∧ e.peer? = some x then .free else e) = s.sched.slots := by
    refine List.ext_getElem (by simp) fun n _ hn => ?_
    have notOwned : ¬ (n ∈ slots ∧ (s.sched.slots[n]).peer? = some x) := by
      rintro ⟨hm, hx⟩
      exact h n hm (by simpa [State.entry, hn] using hx)
    simp [notOwned]
  simp only [State.freeListed, same]

@[simp] theorem State.freeListed_nil (s : State) (x : Nat) : s.freeListed x [] = s :=
  State.freeListed_of_none_owned (by simp)

/-- Lists freed one after the other are freed as one: a FREE entry has no owner. -/
theorem State.freeListed_freeListed (s : State) (x : Nat) (l m : List Nat) :
    (s.freeListed x l).freeListed x m = s.freeListed x (l ++ m) := by
  simp only [State.freeListed, List.mapIdx_mapIdx]
  congr! 4 with n
  funext e
  by_cases freed : n ∈ l ∧ e.peer? = some x
  · simp [freed]
  · have still : (n ∈ l ∨ n ∈ m) ∧ e.peer? = some x ↔ n ∈ m ∧ e.peer? = some x := by tauto
    simp [freed, still]

/-- Only which slots are listed matters. -/
theorem State.freeListed_congr (s : State) (x : Nat) {l m : List Nat} (h : ∀ n, n ∈ l ↔ n ∈ m) :
    s.freeListed x l = s.freeListed x m := by
  simp only [State.freeListed, h]

/-- An entry with an owner lies in the table. -/
theorem State.lt_length_of_peer? {s : State} {x n : Nat} (h : (s.entry n).peer? = some x) :
    n < s.sched.slots.length := by
  by_contra hn
  simp [State.entry, Nat.le_of_not_lt hn] at h

/-! ### Learning from RELEASE and LEAVE -/

/-- One listed slot is freed exactly where the sender owns it. -/
theorem State.learnRelease_eq {s : State} (h : s.sched.slots.length ≤ s.scheduled) (x n : Nat) :
    s.learnRelease x n = s.freeListed x [n] := by
  by_cases owned : (s.entry n).peer? = some x
  · have inTable := State.lt_length_of_peer? owned
    have freed : s.learnRelease x n = s.setEntry n .free := by
      simp [State.learnRelease, owned, Nat.lt_of_lt_of_le inTable h]
    rw [freed]
    simp only [State.setEntry, State.freeListed]
    congr 2
    refine List.ext_getElem (by simp) fun k hk _ => ?_
    by_cases hn : n = k
    · subst hn
      have hx : (s.sched.slots[n]).peer? = some x := by simpa [State.entry, inTable] using owned
      simp [hx]
    · simp [hn, Ne.symm hn]
  · have kept : s.learnRelease x n = s := by simp [State.learnRelease, owned]
    rw [kept, State.freeListed_of_none_owned]
    simpa using owned

/-- A list is freed slot by slot. -/
theorem State.foldl_learnRelease {s : State} (h : s.sched.slots.length ≤ s.scheduled) (x : Nat) (slots : List Nat) :
    slots.foldl (fun s n => s.learnRelease x n) s = s.freeListed x slots := by
  induction slots generalizing s with
  | nil => simp
  | cons n slots ih =>
    rw [List.foldl_cons, State.learnRelease_eq h, ih (by simpa using h), State.freeListed_freeListed,
      List.singleton_append]

/-- What the schedule unit takes from a RELEASE frame (R46). -/
theorem State.learn_release {s : State} (h : s.sched.slots.length ≤ s.scheduled) (hdr : Header) (slots : List Nat) :
    s.learn ⟨hdr, .release slots⟩ = s.freeListed hdr.sender slots :=
  calc s.learn ⟨hdr, .release slots⟩
    _ = (eachOnce slots).foldl (fun s n => s.learnRelease hdr.sender n) s := rfl
    _ = s.freeListed hdr.sender (eachOnce slots) := State.foldl_learnRelease h _ _
    _ = s.freeListed hdr.sender slots := s.freeListed_congr _ fun n => mem_eachOnce n slots

/-- What the schedule unit takes from a LEAVE frame (R47). -/
theorem State.learn_leave (s : State) (hdr : Header) :
    s.learn ⟨hdr, .leave⟩ = s.freeEntries fun e => e.peer? == some hdr.sender := rfl

end Sys2Proof.Machine

namespace Sys2Proof.Proofs

open Sys2Proof.Machine

/-- Settles O41: a RELEASE frees its list slot by slot, and the table has no entry beyond the D slots in use. -/
theorem releaseAndLeaveLearned : Obligations.ReleaseAndLeaveLearned := by
  intro s h slots full
  refine ⟨State.learn_release full.le h slots, ?_⟩
  rw [State.learn_leave]
  simp [State.freeEntries, Entry.freeIf]

end Sys2Proof.Proofs

/-!
PROOFS. RESERVE: the checks of R61 in their order.
-/

namespace Sys2Proof.Machine

/-- The checks of RESERVE in the order of R61, each with the status of its failure; `State.reserve_eq` ties them to the
model. -/
def State.reserveChecks (s : State) (lane n : Byte) : List (Prop × Status) := [
  (s.station.life = .joined, .state),
  (lane.toNat ≤ 3 ∧ (s.lane lane.toNat).config ≠ none, .arg),
  (1 ≤ n.toNat ∧ n.toNat ≤ 4, .arg),
  (s.sched.claim = none ∧ s.timer.relearnHold = 0 ∧ s.sender.queue.length < 4, .busy),
  (s.sched.slots.countP Entry.isOwn + n.toNat ≤ 8, .limit),
  (n.toNat ≤ s.sched.slots.count .free, .noSlots)]

/-- There are as many FREE slots to take as FREE entries in the table. -/
theorem State.slotsWhere_free_length (s : State) : (s.slotsWhere (· == .free)).length = s.sched.slots.count .free :=
  s.slotsWhere_length _

/-- A lane is enabled exactly while it has a configuration (R107). -/
theorem TxLane.enabled_iff (t : TxLane) : t.enabled = true ↔ t.config ≠ none :=
  Option.isSome_iff_ne_none

open Classical in
/-- The search for a check that fails is a chain of conditions. The instance is any, so that the chain meets the
model's own tests. -/
theorem elim_find?_failing_cons {α : Type} (p : Prop) [Decidable p] (st : Status) (checks : List (Prop × Status)) (passed : α)
    (failed : Prop × Status → α) :
    (((p, st) :: checks).find? fun c => ¬ c.1).elim passed failed
      = if p then (checks.find? fun c => ¬ c.1).elim passed failed else failed (p, st) := by
  by_cases h : p <;> simp [h]

open Classical in
/-- RESERVE searches its checks for the first that fails (R61). -/
theorem State.reserve_eq (s : State) (lane n : Byte) :
    s.reserve lane n = ((s.reserveChecks lane n).find? fun c => ¬ c.1).elim
      (s.claimSlots lane.toNat n.toNat, ⟨.ok, [], .none⟩) fun c => s.refuse c.2 := by
  simp only [State.reserveChecks, elim_find?_failing_cons, List.find?_nil, Option.elim_none]
  simp only [State.reserve, State.ownSlots, State.slotsWhere_free_length, ← TxLane.enabled_iff]
  simp only [bne_iff_ne, ne_eq, Bool.not_eq_true', Bool.eq_false_iff, Bool.and_eq_true, decide_eq_true_eq,
    Option.isNone_iff_eq_none, beq_iff_eq, and_assoc, ← Nat.not_le, ite_not]

/-- The first check that fails decides the status, and a refused RESERVE changes nothing (R61). -/
theorem State.reserve_of_first_failing {s : State} {lane n : Byte} {k : Nat} {c : Prop × Status}
    (hc : (s.reserveChecks lane n)[k]? = some c) (fails : ¬ c.1)
    (before : ∀ j < k, ∀ e, (s.reserveChecks lane n)[j]? = some e → e.1) :
    s.reserve lane n = s.refuse c.2 := by
  classical
  have found : ((s.reserveChecks lane n).find? fun c => ¬ c.1) = some c := by
    obtain ⟨hk, atK⟩ := List.getElem?_eq_some_iff.1 hc
    refine List.find?_eq_some_iff_getElem.2 ⟨by simpa using fails, k, hk, atK, fun j hj => ?_⟩
    simpa using before j hj _ (List.getElem?_eq_getElem (hj.trans hk))
  rw [State.reserve_eq, found, Option.elim_some]

/-- A RESERVE that passes every check is accepted (R62). -/
theorem State.reserve_of_passes {s : State} {lane n : Byte} (passes : ∀ c ∈ s.reserveChecks lane n, c.1) :
    s.reserve lane n = (s.claimSlots lane.toNat n.toNat, ⟨.ok, [], .none⟩) := by
  classical
  have none_fails : ((s.reserveChecks lane n).find? fun c => ¬ c.1) = none :=
    List.find?_eq_none.2 fun c hc => by simpa using passes c hc
  rw [State.reserve_eq, none_fails, Option.elim_none]

/-- RESERVE is a transaction of its own. -/
theorem exec_reserve (lane n : Byte) (s : State) :
    exec (.reserve lane n) s = .next (s.take (.reserve lane n) fun s => s.reserve lane n) := rfl

end Sys2Proof.Machine

namespace Sys2Proof.Proofs

open Sys2Proof.Machine

/-- Settles O20: RESERVE answers by its search for the first failing check, and the end of the transaction before it
touches nothing that a check reads. -/
theorem reserveRefusedInOrder : Obligations.ReserveRefusedInOrder := by
  intro s lane n ready checks
  have same : State.reserveChecks { s with port.transaction := none } lane n = checks := rfl
  rw [← same]
  refine ⟨fun k status hk fails before => ?_, fun passes => ?_⟩
  · rw [exec_reserve, State.take_refused ready (State.reserve_of_first_failing hk fails before)]
  · exact ⟨_, by rw [exec_reserve, State.take_of_reply ready (State.reserve_of_passes passes)], rfl⟩

end Sys2Proof.Proofs

/-!
PROOFS. The lane commands: the checks of R113, then APPEND, COMMIT, FLUSH and RESUME on the lane (R114 to R117).
-/

namespace Sys2Proof.Machine

/-! ### The checks of R113 -/

theorem StationState.loads_iff (l : StationState) : l.loads = true ↔ l ∈ [.listening, .waiting, .joining, .joined] := by
  cases l <;> simp [StationState.loads]

theorem StationState.onLink_iff (l : StationState) :
    l.onLink = true ↔ l ∈ [.listening, .waiting, .joining, .joined, .leaving, .fault] := by
  cases l <;> simp [StationState.onLink]

section
variable {s : State} {taken : StationState → Bool} {states : List StationState} {lane : Byte}

/-- The first check that fails decides the status. Past the checks the command acts on the lane, which stays as it is
where the act gives no other. -/
theorem State.onLane_eq (stateCheck : ∀ l, taken l = true ↔ l ∈ states) (act : TxLane → Option TxLane × Status) :
    s.onLane (taken s.station.life) lane act = (s.laneRefusal states lane).elim
      ((act (s.lane lane.toNat)).1.elim s (s.setLane lane.toNat), ⟨(act (s.lane lane.toNat)).2, [], .none⟩)
      s.refuse := by
  unfold State.onLane State.laneRefusal
  by_cases inState : s.station.life ∈ states
  · by_cases noLane : 3 < lane.toNat
    · simp [(stateCheck _).2 inState, inState, noLane]
    · by_cases disabled : (s.lane lane.toNat).config = none
      · simp [(stateCheck _).2 inState, inState, noLane, Nat.le_of_not_lt noLane, TxLane.enabled, disabled]
      · have enabled := (TxLane.enabled_iff _).2 disabled
        rcases act (s.lane lane.toNat) with ⟨_ | t, st⟩ <;>
          simp [(stateCheck _).2 inState, inState, noLane, Nat.le_of_not_lt noLane, enabled, disabled, State.refuse]
  · simp [Bool.eq_false_iff, stateCheck, inState]

/-- A lane command that the checks refuse leaves the state with the status as its answer. -/
theorem State.take_onLane_refused (ready : s.PortReady) (stateCheck : ∀ l, taken l = true ↔ l ∈ states) {st : Status}
    (refused : s.laneRefusal states lane = some st) (c : Instr) (act : TxLane → Option TxLane × Status) :
    s.take c (fun s => s.onLane (taken s.station.life) lane act) = s.answered c st := by
  have still : State.laneRefusal { s with port.transaction := none } states lane = some st := refused
  refine State.take_refused ready ?_
  rw [State.onLane_eq stateCheck, still, Option.elim_some]

/-- A lane command that passes the checks leaves its act on the lane and the status of that act. -/
theorem State.take_onLane_passed (ready : s.PortReady) (stateCheck : ∀ l, taken l = true ↔ l ∈ states)
    (passes : s.laneRefusal states lane = none) (c : Instr) (act : TxLane → Option TxLane × Status) :
    s.take c (fun s => s.onLane (taken s.station.life) lane act) =
      State.answered c ((act (s.lane lane.toNat)).1.elim s (s.setLane lane.toNat)) (act (s.lane lane.toNat)).2 := by
  have still : State.laneRefusal { s with port.transaction := none } states lane = none := passes
  have same : State.lane { s with port.transaction := none } lane.toNat = s.lane lane.toNat := rfl
  rw [State.take_ready ready]
  simp only [State.onLane_eq stateCheck, still, same, Option.elim_none]
  cases (act (s.lane lane.toNat)).1 <;> rfl

end

/-! ### The four commands -/

/-- APPEND on a lane with its count of bytes: the act of the command past the checks, which `exec_append` ties to the
model. -/
def TxLane.appendCounted (count : Byte) (payload : List Byte) (t : TxLane) : Option TxLane × Status :=
  if 1 ≤ count.toNat && count.toNat ≤ 32 && payload.length == count.toNat then t.append payload else (none, .arg)

theorem exec_append (lane count : Byte) (payload : List Byte) (s : State) :
    exec (.append lane count payload) s = .next (s.take (.append lane count payload) fun s =>
      s.onLane s.station.life.loads lane (TxLane.appendCounted count payload)) := rfl

theorem exec_commit (lane : Byte) (s : State) :
    exec (.commit lane) s = .next (s.take (.commit lane) fun s => s.onLane s.station.life.loads lane TxLane.commit) := rfl

theorem exec_flush (lane : Byte) (s : State) :
    exec (.flush lane) s = .next (s.take (.flush lane) fun s =>
      s.onLane s.station.life.onLink lane fun t => (some t.flush, .ok)) := rfl

theorem exec_resume (lane : Byte) (s : State) :
    exec (.resume lane) s = .next (s.take (.resume lane) fun s => s.onLane s.station.life.onLink lane TxLane.resume) := rfl

/-! ### Loading a lane (R114, R115) -/

section
variable {t : TxLane} {before : List Position} {p : Position}

theorem TxLane.loading_of_newest (h : t.positions = before ++ [p]) (hp : p.phase = .loading) : t.loading = some p := by
  simp [TxLane.loading, h, hp]

theorem TxLane.loading_eq_none (h : ∀ p ∈ t.positions, p.phase ≠ .loading) : t.loading = none := by
  unfold TxLane.loading
  split
  · next p newest => simp [h p (List.mem_of_getLast? newest)]
  · rfl

/-- A count outside 1 to 32 is refused. -/
theorem TxLane.appendCounted_of_outside {count : Byte} (h : count.toNat = 0 ∨ 32 < count.toNat) (payload : List Byte) :
    t.appendCounted count payload = (none, .arg) :=
  if_neg (by simp; omega)

theorem TxLane.appendCounted_of_counted {count : Byte} {payload : List Byte} (one : 1 ≤ count.toNat)
    (most : count.toNat ≤ 32) (counted : payload.length = count.toNat) :
    t.appendCounted count payload = t.append payload :=
  if_pos (by simp [one, most, counted])

/-- Onto the LOADING position go the bytes it has room for. -/
theorem TxLane.append_onto (h : t.positions = before ++ [p]) (hp : p.phase = .loading) (bytes : List Byte) :
    t.append bytes = if p.payload.length + bytes.length ≤ t.maxPayload
      then (some { t with positions := before ++ [t.loadedPosition (p.payload ++ bytes)] }, .ok) else (none, .arg) := by
  simp [TxLane.append, TxLane.loading_of_newest h hp, h]

/-- With no LOADING position the bytes begin one, where the depth leaves a place for it. -/
theorem TxLane.append_fresh (h : ∀ p ∈ t.positions, p.phase ≠ .loading) (bytes : List Byte) :
    t.append bytes = if t.positions.length < t.depth then
        if bytes.length ≤ t.maxPayload then (some { t with positions := t.positions ++ [t.loadedPosition bytes] }, .ok)
        else (none, .arg)
      else (none, .full) := by
  simp [TxLane.append, TxLane.loading_eq_none h]

theorem TxLane.commit_newest (h : t.positions = before ++ [p]) (hp : p.phase = .loading) :
    t.commit = (some { t with positions := before ++ [{ p with phase := .committed }] }, .ok) := by
  simp [TxLane.commit, TxLane.loading_of_newest h hp, h]

theorem TxLane.commit_nothing (h : ∀ p ∈ t.positions, p.phase ≠ .loading) : t.commit = (none, .empty) := by
  simp [TxLane.commit, TxLane.loading_eq_none h]

end

theorem TxLane.maxPayload_of_config {t : TxLane} {c : LaneConfig} (h : t.config = some c) : t.maxPayload = c.maxPayload := by
  simp [TxLane.maxPayload, h]

theorem TxLane.depth_of_config {t : TxLane} {c : LaneConfig} (h : t.config = some c) :
    t.depth = if c.maxPayload * 2 ≤ c.share then 2 else if c.maxPayload ≤ c.share then 1 else 0 := by
  simp [TxLane.depth, h]

theorem TxLane.loadedPosition_of_config {t : TxLane} {c : LaneConfig} (h : t.config = some c) (bytes : List Byte) :
    t.loadedPosition bytes = ⟨bytes, none, if bytes.length = c.maxPayload then .committed else .loading⟩ := by
  simp [TxLane.loadedPosition, TxLane.maxPayload_of_config h]

/-! ### Resuming a lane (R117) -/

theorem TxLane.resume_of_halted {t : TxLane} (h : t.halt ≠ none) :
    t.resume = (some ⟨t.config, none, t.positions.map Position.unsend, t.nextSeq, true, 0, 0⟩, .ok) := by
  simp [TxLane.resume, Option.isSome_iff_ne_none, h]

theorem TxLane.resume_of_not_halted {t : TxLane} (h : t.halt = none) : t.resume = (none, .state) := by
  simp [TxLane.resume, h]

end Sys2Proof.Machine

namespace Sys2Proof.Proofs

open Sys2Proof.Machine

/-- Settles O23: all four commands go through the checks, APPEND and COMMIT with the states in which a lane loads, FLUSH
and RESUME with those on the link. -/
theorem laneCommandsChecked : Obligations.LaneCommandsChecked := by
  intro s lane count payload status ready
  refine ⟨fun refused => ⟨?_, ?_⟩, fun refused => ⟨?_, ?_⟩⟩
  · rw [exec_append, State.take_onLane_refused ready StationState.loads_iff refused]
  · rw [exec_commit, State.take_onLane_refused ready StationState.loads_iff refused]
  · rw [exec_flush, State.take_onLane_refused ready StationState.onLink_iff refused]
  · rw [exec_resume, State.take_onLane_refused ready StationState.onLink_iff refused]

/-- Settles O24: past the checks APPEND and COMMIT act on the LOADING position, which is the newest, or meet none. -/
theorem appendAndCommitLoad : Obligations.AppendAndCommitLoad := by
  intro s lane count payload c ready passes config t withPositions depth loaded
  have append := State.take_onLane_passed ready StationState.loads_iff passes (.append lane count payload)
    (TxLane.appendCounted count payload)
  have commit := State.take_onLane_passed ready StationState.loads_iff passes (.commit lane) TxLane.commit
  have room : t.maxPayload = c.maxPayload := TxLane.maxPayload_of_config config
  have deep : t.depth = depth := TxLane.depth_of_config config
  have load : ∀ bytes, t.loadedPosition bytes = loaded bytes := TxLane.loadedPosition_of_config config
  rw [exec_append, exec_commit, append, commit]
  refine ⟨fun outside => ?_, fun one most counted => ?_, fun before bytes seq newest => ?_, fun none_loads => ?_⟩
  · rw [TxLane.appendCounted_of_outside outside]; rfl
  · rw [TxLane.appendCounted_of_counted one most counted]
    refine ⟨fun before bytes seq newest fits => ?_, fun before bytes seq newest tooLong => ?_,
      fun none_loads place fits => ?_, fun none_loads place tooLong => ?_, fun none_loads full => ?_⟩
    · rw [TxLane.append_onto newest rfl, if_pos (by rwa [room]), load]; rfl
    · rw [TxLane.append_onto newest rfl, if_neg (by rwa [room, Nat.not_le])]; rfl
    · rw [TxLane.append_fresh none_loads, if_pos (by rwa [deep]), if_pos (by rwa [room]), load]; rfl
    · rw [TxLane.append_fresh none_loads, if_pos (by rwa [deep]), if_neg (by rwa [room, Nat.not_le])]; rfl
    · rw [TxLane.append_fresh none_loads, if_neg (by rwa [deep, Nat.not_lt])]; rfl
  · rw [TxLane.commit_newest newest rfl]; rfl
  · rw [TxLane.commit_nothing none_loads]; rfl

/-- Settles O25: FLUSH acts on every lane that passes the checks, RESUME on a halted one. -/
theorem flushAndResumeRestart : Obligations.FlushAndResumeRestart := by
  intro s lane ready passes t
  have flush := State.take_onLane_passed ready StationState.onLink_iff passes (.flush lane) fun t => (some t.flush, .ok)
  have resume := State.take_onLane_passed ready StationState.onLink_iff passes (.resume lane) TxLane.resume
  rw [exec_flush, exec_resume, flush, resume]
  refine ⟨rfl, fun notHalted => ?_, fun halted => ?_⟩
  · rw [TxLane.resume_of_not_halted notHalted]; rfl
  · rw [TxLane.resume_of_halted halted]; rfl

end Sys2Proof.Proofs

/-!
PROOFS. The judgement of a received packet, by its destination, the context of its pair and the room of its receive lane
(R129 to R132, R148).
-/

namespace Sys2Proof.Machine

/-! ### Room and contexts -/

theorem State.rxRoom_iff (s : State) (c : Nat) : s.rxRoom c = true ↔ (s.rxLane c).length < 2 := decide_eq_true_iff

theorem State.rxRoom_eq_false_iff (s : State) (c : Nat) : s.rxRoom c = false ↔ 2 ≤ (s.rxLane c).length := by
  rw [Bool.eq_false_iff, ne_eq, State.rxRoom_iff, Nat.not_lt]

@[simp] theorem State.setContext_setContext (s : State) (p c : Nat) (v w : Option Seq) :
    (s.setContext p c v).setContext p c w = s.setContext p c w := by
  simp [State.setContext]

/-- Only a context within the table holds a sequence, so setting the sequence it holds changes nothing. -/
theorem State.setContext_same {s : State} {p c : Nat} {v : Seq} (h : s.context p c = some v) :
    s.setContext p c (some v) = s := by
  have inTable : contextIndex p c < s.delivery.contexts.length := by
    by_contra outside
    rw [State.context, List.getD_eq_default _ _ (Nat.le_of_not_lt outside)] at h
    contradiction
  have held : s.delivery.contexts[contextIndex p c] = some v := by
    rw [← h, State.context, List.getD_eq_getElem _ _ inTable]
  rw [State.setContext, ← held, List.set_getElem_self]

/-! ### The expected sequence (R130, R131) -/

section
variable {s : State} {p : Nat} {k : Packet} {e : Seq}

theorem State.judgeInOrder_room (room : s.rxRoom k.channel = true) :
    s.judgeInOrder p k k.seq =
      State.owe ((s.deliver p k.channel false k.payload).setContext p k.channel (some (k.seq + 1))) p k.channel
        (k.seq + 1) false := by
  simp [State.judgeInOrder, room]

theorem State.judgeInOrder_full (full : s.rxRoom k.channel = false) :
    s.judgeInOrder p k k.seq = s.owe p k.channel k.seq true := by
  simp [State.judgeInOrder, full]

/-- One and two before the expected sequence are duplicates: neither is the expected one, modulo 8. -/
theorem State.judgeInOrder_duplicate (h : k.seq = e - 1 ∨ k.seq = e - 2) :
    s.judgeInOrder p k e = s.owe p k.channel e false := by
  have old : k.seq ≠ e := by bv_omega
  rw [State.judgeInOrder, if_neg old, if_pos (by simpa using h)]

theorem State.judgeInOrder_outside (now : k.seq ≠ e) (one : k.seq ≠ e - 1) (two : k.seq ≠ e - 2) :
    s.judgeInOrder p k e = s := by
  rw [State.judgeInOrder, if_neg now, if_neg (by simpa using ⟨one, two⟩)]

/-! ### The unicast judgement (R130) -/

/-- A packet is in sequence where it carries the expected sequence without start flag, or a start flag that repeats no
start already taken. -/
def State.InSequence (s : State) (p : Nat) (k : Packet) : Prop :=
  k.start = false ∧ s.context p k.channel = some k.seq
    ∨ k.start = true ∧ s.context p k.channel ≠ some (k.seq + 1)

/-- Every packet in sequence is judged as if its own sequence were the one expected: a start sets the context to it, and
the others find it there. -/
theorem State.judgeUnicast_inSequence (h : s.InSequence p k) :
    s.judgeUnicast p k = (s.setContext p k.channel (some k.seq)).judgeInOrder p k k.seq := by
  obtain ⟨plain, expected⟩ | ⟨start, fresh⟩ := h
  · simp [State.judgeUnicast, plain, expected, State.setContext_same expected]
  · cases held : s.context p k.channel with
    | none => simp [State.judgeUnicast, start, held]
    | some e =>
        have new : k.seq ≠ e - 1 := fun same => fresh (by rw [held, same, BitVec.sub_add_cancel])
        simp only [State.judgeUnicast, start, held, if_neg new]

/-- In sequence and with room the packet is delivered, and the context passes to the next sequence. -/
theorem State.judgeUnicast_delivers (h : s.InSequence p k) (room : s.rxRoom k.channel = true) :
    s.judgeUnicast p k =
      State.owe ((s.deliver p k.channel false k.payload).setContext p k.channel (some (k.seq + 1))) p k.channel
        (k.seq + 1) false := by
  have deliver_setContext : (s.setContext p k.channel (some k.seq)).deliver p k.channel false k.payload
      = (s.deliver p k.channel false k.payload).setContext p k.channel (some k.seq) := rfl
  rw [State.judgeUnicast_inSequence h, State.judgeInOrder_room (s := s.setContext _ _ _) room, deliver_setContext,
    State.setContext_setContext]

/-- In sequence and without room the packet is answered busy, and the context keeps to its sequence. -/
theorem State.judgeUnicast_busy (h : s.InSequence p k) (full : s.rxRoom k.channel = false) :
    s.judgeUnicast p k = (s.setContext p k.channel (some k.seq)).owe p k.channel k.seq true := by
  rw [State.judgeUnicast_inSequence h, State.judgeInOrder_full (s := s.setContext _ _ _) full]

theorem State.judgeUnicast_startRepeated (start : k.start = true) (taken : s.context p k.channel = some (k.seq + 1)) :
    s.judgeUnicast p k = s.owe p k.channel (k.seq + 1) false := by
  simp [State.judgeUnicast, start, taken]

theorem State.judgeUnicast_noContext (plain : k.start = false) (none_held : s.context p k.channel = none) :
    s.judgeUnicast p k = s := by
  simp [State.judgeUnicast, plain, none_held]

theorem State.judgeUnicast_context (plain : k.start = false) (held : s.context p k.channel = some e) :
    s.judgeUnicast p k = s.judgeInOrder p k e := by
  simp [State.judgeUnicast, plain, held]

/-! ### The broadcast judgement (R132) -/

theorem State.judgeBroadcast_room (room : s.rxRoom k.channel = true) :
    s.judgeBroadcast p k = s.deliver p k.channel true k.payload := if_pos room

theorem State.judgeBroadcast_full (full : s.rxRoom k.channel = false) :
    s.judgeBroadcast p k = s.post (.rxDropped k.channel p) := if_neg (by simp [full])

/-! ### Which judgement (R129) -/

theorem State.judge_notJoined (h : s.station.life ≠ .joined) : s.judge p k = s := by
  simp [State.judge, h]

theorem State.judge_own (joined : s.station.life = .joined) (own : k.destination = s.station.address) :
    s.judge p k = s.judgeUnicast p k := by
  simp [State.judge, joined, own]

theorem State.judge_broadcast (joined : s.station.life = .joined) (all : k.destination = 63)
    (address : s.station.address ≤ 62) : s.judge p k = s.judgeBroadcast p k := by
  have foreign : 63 ≠ s.station.address := by omega
  simp [State.judge, joined, all, foreign]

theorem State.judge_other (foreign : k.destination ≠ s.station.address) (notAll : k.destination ≠ 63) :
    s.judge p k = s := by
  simp [State.judge, foreign, notAll]

end

end Sys2Proof.Machine

namespace Sys2Proof.Proofs

open Sys2Proof.Machine

/-- Settles O44: a packet in sequence is judged with its own sequence as the one expected, by the room of its lane; any
other one by how its sequence lies to the context. -/
theorem unicastJudged : Obligations.UnicastJudged := by
  intro s p k own c context set inSequence
  refine ⟨State.judge_notJoined, State.judge_other, fun joined toOwn => ?_⟩
  rw [State.judge_own joined toOwn]
  refine ⟨State.judgeUnicast_startRepeated, State.judgeUnicast_noContext, fun inSeq room => ?_, fun inSeq full => ?_,
    fun e plain held old => ?_, fun e plain held now one two => ?_⟩
  · exact State.judgeUnicast_delivers inSeq ((State.rxRoom_iff _ _).2 room)
  · exact State.judgeUnicast_busy inSeq ((State.rxRoom_eq_false_iff _ _).2 full)
  · rw [State.judgeUnicast_context plain held, State.judgeInOrder_duplicate old]
  · rw [State.judgeUnicast_context plain held, State.judgeInOrder_outside now one two]

/-- Settles O45: no own address is the broadcast destination, so the room of the receive lane alone decides. -/
theorem broadcastJudged : Obligations.BroadcastJudged := by
  intro s p k all address c
  refine ⟨State.judge_notJoined, fun joined room => ?_, fun joined full => ?_⟩
  · rw [State.judge_broadcast joined all address]
    exact State.judgeBroadcast_room ((State.rxRoom_iff _ _).2 room)
  · rw [State.judge_broadcast joined all address]
    exact State.judgeBroadcast_full ((State.rxRoom_eq_false_iff _ _).2 full)

end Sys2Proof.Proofs

/-!
PROOFS. An ack entry applied: the lane it selects, the SENT positions it frees, and the busy handling (R111, R136 to
R138).
-/

namespace Sys2Proof.Machine

/-! ### The selected lane (R136) -/

/-- The lane is the unicast lane with this destination and channel: the test of `State.laneFor`. -/
def TxLane.selectedBy (p c : Nat) (t : TxLane) : Bool := t.isTo p && t.config.map (·.channel) == some c

theorem TxLane.selectedBy_iff (p c : Nat) (t : TxLane) :
    t.selectedBy p c = true ↔ ∃ g, t.config = some g ∧ g.destination = p ∧ p ≠ 63 ∧ g.channel = c := by
  cases config : t.config with
  | none => simp [TxLane.selectedBy, TxLane.isTo, config]
  | some g =>
      simp only [TxLane.selectedBy, TxLane.isTo, config, Option.map_some, Bool.and_eq_true, beq_iff_eq, bne_iff_ne,
        Option.some.injEq, exists_eq_left', and_assoc]
      exact and_congr_right fun h => by rw [h]

theorem State.laneFor_eq (s : State) (p c : Nat) :
    s.laneFor p c = (List.range 4).find? fun l => (s.lane l).selectedBy p c := rfl

theorem State.laneFor_eq_none {s : State} {p c : Nat} (h : ∀ k < 4, ¬ (s.lane k).selectedBy p c = true) :
    s.laneFor p c = none := by
  rw [State.laneFor_eq, List.find?_range_eq_none]
  simpa using h

theorem State.laneFor_eq_some {s : State} {p c l : Nat} (inTable : l < 4) (selected : (s.lane l).selectedBy p c = true)
    (first : ∀ k < l, ¬ (s.lane k).selectedBy p c = true) : s.laneFor p c = some l := by
  rw [State.laneFor_eq, List.find?_range_eq_some]
  exact ⟨selected, List.mem_range.2 inTable, by simpa using first⟩

theorem State.applyAck_foreign {s : State} {a : AckEntry} (p : Nat) (h : a.station ≠ s.station.address) :
    s.applyAck p a = s := by
  simp [State.applyAck, h]

theorem State.applyAck_noLane {s : State} {p : Nat} {a : AckEntry} (h : s.laneFor p a.channel = none) :
    s.applyAck p a = s := by
  simp [State.applyAck, h]

theorem State.applyAck_lane {s : State} {p l : Nat} {a : AckEntry} (own : a.station = s.station.address)
    (h : s.laneFor p a.channel = some l) :
    s.applyAck p a = if a.busy then (s.ackFree l a.next).ackBusy l a.next else s.ackFree l a.next := by
  simp [State.applyAck, own, h]

/-! ### The selected lane written -/

theorem State.lane_setLane_same {s : State} {l : Nat} (inTable : l < s.tx.lanes.length) (t : TxLane) :
    (s.setLane l t).lane l = t := by
  rw [State.lane_setLane, if_pos ⟨rfl, inTable⟩]

@[simp] theorem State.setLane_setLane (s : State) (l : Nat) (t u : TxLane) :
    (s.setLane l t).setLane l u = s.setLane l u := by
  simp [State.setLane]

@[simp] theorem State.postAll_nil (s : State) : s.postAll [] = s := rfl

@[simp] theorem State.lane_postAll (s : State) (es : List Event) (l : Nat) : (s.postAll es).lane l = s.lane l := by
  simp only [State.lane, State.postAll_tx]

/-! ### The freeing (R137) -/

/-- The lane without the positions that an ack covers; one that covers any begins the busy count anew. -/
def TxLane.freedBy (e : Seq) (t : TxLane) : TxLane := { t with
  positions := t.positions.filter (!·.coveredBy e)
  busyCount := if t.positions.filter (·.coveredBy e) = [] then t.busyCount else 0 }

theorem State.ackFree_eq {s : State} {l : Nat} {c : LaneConfig} (config : (s.lane l).config = some c) (e : Seq) :
    s.ackFree l e = (s.setLane l ((s.lane l).freedBy e)).postAll
      (if c.confirm then ((s.lane l).positions.filter (·.coveredBy e)).map fun p => .packetConfirmed l (p.seq.getD 0)
        else []) := by
  simp only [State.ackFree, TxLane.freedBy, config, Option.map_some, Option.getD_some, List.isEmpty_iff]
  split <;> simp only [State.postAll_nil]

theorem State.lane_ackFree {s : State} {l : Nat} {c : LaneConfig} (config : (s.lane l).config = some c)
    (inTable : l < s.tx.lanes.length) (e : Seq) : (s.ackFree l e).lane l = (s.lane l).freedBy e := by
  rw [State.ackFree_eq config, State.lane_postAll, State.lane_setLane_same inTable]

/-! ### The busy handling (R111, R138) -/

/-- The lane held by a busy ack: its position becomes eligible again with its retries at 0, and the count goes up to its
limit. -/
def TxLane.busiedBy (e : Seq) (t : TxLane) : TxLane := { t with
  positions := t.positions.map (Position.busied e)
  busyHold := 2
  busyCount := min (t.busyCount + 1) 64 }

section
variable {s : State} {l : Nat} {e : Seq} {t : TxLane}

/-- A busy ack whose position is not SENT does nothing. -/
theorem State.ackBusy_unnamed (read : s.lane l = t) (unnamed : ∀ q ∈ t.positions, q.sentWith e = false) :
    s.ackBusy l e = s := by
  have noneSent : t.positions.any (·.sentWith e) = false := by simpa using unnamed
  simp [State.ackBusy, read, noneSent]

theorem State.ackBusy_named (read : s.lane l = t) (named : ∃ q ∈ t.positions, q.sentWith e = true) :
    s.ackBusy l e =
      if t.busyCount + 1 < 64 then s.setLane l (t.busiedBy e)
      else (s.setLane l (t.busiedBy e)).haltLane l .busyLimit := by
  have oneSent : t.positions.any (·.sentWith e) = true := by simpa using named
  have below : t.busyCount + 1 < 64 ↔ ¬ min (t.busyCount + 1) 64 = 64 := by omega
  simp only [State.ackBusy, read, if_pos oneSent, below, ite_not, TxLane.busiedBy]

variable (inTable : l < s.tx.lanes.length) (read : s.lane l = t) (named : ∃ q ∈ t.positions, q.sentWith e = true)
include inTable read named

/-- Below the limit, and on a lane already HALTED, the busy ack holds the lane and no more. -/
theorem State.ackBusy_holds (still : t.busyCount + 1 < 64 ∨ t.halt ≠ none) :
    s.ackBusy l e = s.setLane l (t.busiedBy e) := by
  rw [State.ackBusy_named read named]
  split
  · rfl
  · next atLimit =>
      have halted : t.halt.isNone = false := by
        simpa [Option.isSome_iff_ne_none] using still.resolve_left atLimit
      have notReady : (t.busiedBy e).ready = false := by simp [TxLane.ready, TxLane.busiedBy, halted]
      rw [State.haltLane, State.lane_setLane_same inTable, if_neg (by simp [notReady])]

/-- At the limit the busy ack holds a READY lane and halts it. -/
theorem State.ackBusy_halts (enabled : t.config ≠ none) (atLimit : 64 ≤ t.busyCount + 1) (unhalted : t.halt = none) :
    s.ackBusy l e = (s.setLane l { t.busiedBy e with halt := some .busyLimit }).post (.laneHalted l .busyLimit) := by
  have ready : (t.busiedBy e).ready = true := by
    simp [TxLane.ready, TxLane.busiedBy, unhalted, Option.isSome_iff_ne_none, enabled]
  rw [State.ackBusy_named read named, if_neg (Nat.not_lt.2 atLimit), State.haltLane,
    State.lane_setLane_same inTable, if_pos ready, State.setLane_setLane]

end

end Sys2Proof.Machine

namespace Sys2Proof.Proofs

open Sys2Proof.Machine

/-- Settles O47: the lane the entry selects is freed first, and the busy handling then acts on what the freeing left. -/
theorem ackApplied : Obligations.AckApplied := by
  intro s p l a c four selects
  have selects_iff : ∀ k, (s.lane k).selectedBy p a.channel = true ↔ selects k := fun k =>
    TxLane.selectedBy_iff p a.channel (s.lane k)
  refine ⟨fun other => ?_, fun own inTable config selected first => ?_⟩
  · obtain foreign | noLane := other
    · exact State.applyAck_foreign p foreign
    · exact State.applyAck_noLane (State.laneFor_eq_none fun k hk => (selects_iff k).not.2 (noLane k hk))
  intro t e sentWith covers freed rest count u busied
  have found : s.laneFor p a.channel = some l :=
    State.laneFor_eq_some inTable ((selects_iff l).2 selected) fun k hk => (selects_iff k).not.2 (first k hk)
  have free : s.ackFree l e = u := State.ackFree_eq config e
  have read : u.lane l = t.freedBy e := free ▸ State.lane_ackFree config (four ▸ inTable) e
  have stored : l < u.tx.lanes.length := by simpa [u, four] using inTable
  have busied_eq : (t.freedBy e).busiedBy e = busied := by
    have positions : rest.map (Position.busied e) = busied.positions := List.map_congr_left fun q _ => by
      rcases q with ⟨payload, seq, phase⟩
      cases phase <;> simp [Position.busied]
    exact congrArg (fun ps => { busied with positions := ps }) positions
  have enabled : (t.freedBy e).config ≠ none := Option.ne_none_iff_exists'.2 ⟨c, config⟩
  rw [State.applyAck_lane own found, free]
  refine ⟨fun quiet => ?_, fun busy named still => ?_, fun busy named atLimit unhalted => ?_⟩
  · obtain silent | unnamed := quiet
    · exact if_neg (by simp [silent])
    · rw [State.ackBusy_unnamed read unnamed, ite_self]
  · rw [if_pos busy, State.ackBusy_holds stored read named still, busied_eq]
  · rw [if_pos busy, State.ackBusy_halts stored read named enabled atLimit unhalted, busied_eq]

end Sys2Proof.Proofs

/-!
PROOFS. What no command but the pins and the supply touches: the reset pin, the supply and the waiting commands.
-/

namespace Sys2Proof.Machine

/-- What belongs to the outside: the pin and the supply, and the commands that wait. -/
def State.ambient (s : State) : Power × List Instr := (s.power, s.pending)

theorem State.ambient_eq {s t : State} (h : t.ambient = s.ambient) : t.power = s.power ∧ t.pending = s.pending :=
  Prod.mk.injEq _ _ _ _ ▸ h

theorem State.ambient_foldl {α : Type} {f : State → α → State} (h : ∀ s a, (f s a).ambient = s.ambient) (l : List α)
    (s : State) : (l.foldl f s).ambient = s.ambient := by
  induction l generalizing s with
  | nil => rfl
  | cons a l ih => rw [List.foldl_cons, ih, h]

/-! ### Shared operations -/

@[simp] theorem State.post_ambient (s : State) (e : Event) : (s.post e).ambient = s.ambient := by simp [State.ambient]
@[simp] theorem State.postAll_ambient (s : State) (es : List Event) : (s.postAll es).ambient = s.ambient := by
  simp [State.ambient]
@[simp] theorem State.setEntry_ambient (s : State) (n : Nat) (e : Entry) : (s.setEntry n e).ambient = s.ambient := rfl
@[simp] theorem State.stepEntry_ambient (s : State) (n : Nat) (f : Entry → Entry) :
    (s.stepEntry n f).ambient = s.ambient := rfl
@[simp] theorem State.freeEntries_ambient (s : State) (p : Entry → Bool) : (s.freeEntries p).ambient = s.ambient := rfl
@[simp] theorem State.setLane_ambient (s : State) (l : Nat) (t : TxLane) : (s.setLane l t).ambient = s.ambient := rfl
@[simp] theorem State.mapLanes_ambient (s : State) (f : TxLane → TxLane) : (s.mapLanes f).ambient = s.ambient := rfl
@[simp] theorem State.setPeer_ambient (s : State) (a : Nat) (r : Peer) : (s.setPeer a r).ambient = s.ambient := by
  simp [State.ambient]
@[simp] theorem State.newHead_ambient (s : State) : s.newHead.ambient = s.ambient := by simp [State.ambient]
@[simp] theorem State.dropHead_ambient (s : State) : s.dropHead.ambient = s.ambient := by simp [State.ambient]
@[simp] theorem State.dropClaim_ambient (s : State) : s.dropClaim.ambient = s.ambient := by simp [State.ambient]
@[simp] theorem State.editClaim_ambient (s : State) (n : Nat) : (s.editClaim n).ambient = s.ambient := by
  simp [State.ambient]
@[simp] theorem State.clearQueue_ambient (s : State) : s.clearQueue.ambient = s.ambient := rfl
@[simp] theorem State.appendControl_ambient (s : State) (f : CtlFrame) : (s.appendControl f).ambient = s.ambient := by
  simp [State.ambient]
@[simp] theorem State.placeRelease_ambient (s : State) (slots : List Nat) : (s.placeRelease slots).ambient = s.ambient := by
  simp [State.ambient]
@[simp] theorem State.replaceQueue_ambient (s : State) : s.replaceQueue.ambient = s.ambient := by
  simp only [State.replaceQueue_eq]; rfl
@[simp] theorem State.endClaim_ambient (s : State) : s.endClaim.ambient = s.ambient := by simp [State.ambient]
@[simp] theorem State.haltLane_ambient (s : State) (l : Nat) (r : HaltReason) : (s.haltLane l r).ambient = s.ambient := by
  simp [State.ambient]
@[simp] theorem State.resetAct_ambient (s : State) : s.resetAct.ambient = s.ambient := rfl
@[simp] theorem State.moveOffline_ambient (s : State) (r : LeftReason) : (s.moveOffline r).ambient = s.ambient :=
  s.post_ambient (.left r)

@[simp] theorem State.homePick_ambient (s : State) : s.homePick.ambient = s.ambient := by
  obtain ⟨n, -, -, h⟩ | ⟨-, ⟨-, h⟩ | ⟨-, h⟩⟩ := s.homePick_cases <;> rw [h]
  · rfl
  · rw [State.post_ambient]; rfl

@[simp] theorem State.homeLost_ambient (s : State) : s.homeLost.ambient = s.ambient := by
  unfold State.homeLost
  split
  · rfl
  · split
    · simp
    · simp only [State.homePick_ambient, State.endClaim_ambient]; split <;> simp
    · rfl

@[simp] theorem State.claimLost_ambient (s : State) : s.claimLost.ambient = s.ambient := by
  rw [State.claimLost_eq]
  split
  · rfl
  · rw [State.post_ambient]; rfl
  · rw [State.homePick_ambient]; rfl

@[simp] theorem State.lossNotice_ambient (s : State) (n : Nat) (e : Entry) : (s.lossNotice n e).ambient = s.ambient := by
  obtain ⟨b, h, k, -, t, rfl | rfl, eq⟩ | ⟨b, h, r, w, -, eq⟩ | ⟨-, eq⟩ := s.lossNotice_cases n e <;> rw [eq]
  · split <;> simp
  · split <;> simp
  · split <;> simp

@[simp] theorem State.winClaim_ambient (s : State) : s.winClaim.ambient = s.ambient := by
  obtain ⟨kind, t, -, rfl, ⟨lane, -, h⟩ | ⟨-, h⟩⟩ | ⟨-, h⟩ := s.winClaim_cases <;> rw [h]
  · rw [State.post_ambient]; rfl
  · rw [State.post_ambient]; rfl

@[simp] theorem State.enterFault_ambient (s : State) : s.enterFault.ambient = s.ambient := by
  unfold State.enterFault
  rw [State.postAll_ambient]
  exact s.post_ambient _

@[simp] theorem State.fallBack_ambient (s : State) : s.fallBack.ambient = s.ambient := by
  rw [State.fallBack_eq]
  split
  · rfl
  · rw [State.post_ambient]; rfl

@[simp] theorem State.haltLanesTo_ambient (s : State) (p : Nat) : (s.haltLanesTo p).ambient = s.ambient := by
  rw [State.haltLanesTo_frame]; rfl

theorem State.eitherOrder_ambient {choice : Nat → Bool} {f g : State → State} (hf : ∀ s, (f s).ambient = s.ambient)
    (hg : ∀ s, (g s).ambient = s.ambient) (s : State) : (s.eitherOrder choice f g).ambient = s.ambient := by
  obtain ⟨r, h⟩ | ⟨r, h⟩ := s.eitherOrder_cases choice f g <;> rw [h]
  · exact (hg _).trans (hf s)
  · exact (hf _).trans (hg s)

@[simp] theorem State.absenceNotice_ambient (s : State) (p : Nat) : (s.absenceNotice p).ambient = s.ambient := by
  simp only [State.absenceNotice]
  split
  · rw [State.eitherOrder_ambient (by simp) (by simp)]; rfl
  · rw [State.haltLanesTo_ambient]; rfl

/-! ### Frames heard -/

@[simp] theorem State.report_ambient (s : State) (span : FrameSpan) (heard : Bool) (x : Option Nat) :
    (s.report span heard x).ambient = s.ambient := by simp [State.ambient]
@[simp] theorem State.takeTiming_ambient (s : State) (h : Header) : (s.takeTiming h).ambient = s.ambient := rfl
@[simp] theorem State.markStart_ambient (s : State) : s.markStart.ambient = s.ambient := rfl

@[simp] theorem State.resync_ambient (s : State) (h : Header) : (s.resync h).ambient = s.ambient := by
  simp only [State.resync]; split <;> rfl

@[simp] theorem State.postReference_ambient (s : State) (r : Nat) (b : Bool) : (s.postReference r b).ambient = s.ambient := by
  unfold State.postReference; split <;> simp

theorem State.decideTiming_ambient (s : State) (h : Header) (arrives : Bool) :
    (s.decideTiming h arrives).1.ambient = s.ambient := by
  simp only [State.decideTiming]
  split_ifs <;> simp <;> rfl

@[simp] theorem State.peerHeard_ambient (s : State) (x : Nat) : (s.peerHeard x).ambient = s.ambient := by
  simp only [State.peerHeard]; split <;> simp
@[simp] theorem State.peerLeft_ambient (s : State) (x : Nat) : (s.peerLeft x).ambient = s.ambient := by
  simp only [State.peerLeft]; split <;> simp
@[simp] theorem State.peerMismatched_ambient (s : State) (x : Nat) : (s.peerMismatched x).ambient = s.ambient := by
  simp only [State.peerMismatched]; split <;> simp

@[simp] theorem State.learnData_ambient (s : State) (x n : Nat) : (s.learnData x n).ambient = s.ambient := by
  unfold State.learnData; split <;> simp
@[simp] theorem State.learnClaim_ambient (s : State) (x n : Nat) : (s.learnClaim x n).ambient = s.ambient := by
  simp only [State.learnClaim]
  split
  · split <;> (try split) <;> simp
  · rfl
@[simp] theorem State.learnRelease_ambient (s : State) (x n : Nat) : (s.learnRelease x n).ambient = s.ambient := by
  unfold State.learnRelease; split <;> simp

@[simp] theorem State.learn_ambient (s : State) (f : Frame) : (s.learn f).ambient = s.ambient := by
  simp only [State.learn]
  split
  · simp
  · exact State.ambient_foldl (fun s n => s.learnClaim_ambient _ n) _ _
  · exact State.ambient_foldl (fun s n => s.learnRelease_ambient _ n) _ _
  · simp

@[simp] theorem State.ackFree_ambient (s : State) (l : Nat) (e : Seq) : (s.ackFree l e).ambient = s.ambient := by
  simp only [State.ackFree]; split <;> simp
@[simp] theorem State.ackBusy_ambient (s : State) (l : Nat) (e : Seq) : (s.ackBusy l e).ambient = s.ambient := by
  simp only [State.ackBusy]; split_ifs <;> simp
@[simp] theorem State.applyAck_ambient (s : State) (p : Nat) (a : AckEntry) : (s.applyAck p a).ambient = s.ambient := by
  unfold State.applyAck
  split
  · split
    · dsimp only; split <;> simp
    · rfl
  · rfl

@[simp] theorem State.setContext_ambient (s : State) (p c : Nat) (v : Option Seq) :
    (s.setContext p c v).ambient = s.ambient := rfl
@[simp] theorem State.owe_ambient (s : State) (p c : Nat) (e : Seq) (b : Bool) : (s.owe p c e b).ambient = s.ambient := rfl
@[simp] theorem State.deliver_ambient (s : State) (p c : Nat) (b : Bool) (bytes : List Byte) :
    (s.deliver p c b bytes).ambient = s.ambient := rfl
@[simp] theorem State.judgeInOrder_ambient (s : State) (p : Nat) (k : Packet) (e : Seq) :
    (s.judgeInOrder p k e).ambient = s.ambient := by
  unfold State.judgeInOrder; split_ifs <;> rfl
@[simp] theorem State.judgeUnicast_ambient (s : State) (p : Nat) (k : Packet) : (s.judgeUnicast p k).ambient = s.ambient := by
  unfold State.judgeUnicast
  split
  · split <;> simp
  · simp
  · simp
  · rfl
@[simp] theorem State.judgeBroadcast_ambient (s : State) (p : Nat) (k : Packet) :
    (s.judgeBroadcast p k).ambient = s.ambient := by
  unfold State.judgeBroadcast; split <;> simp
@[simp] theorem State.judge_ambient (s : State) (p : Nat) (k : Packet) : (s.judge p k).ambient = s.ambient := by
  unfold State.judge; split_ifs <;> simp

@[simp] theorem State.takeDelivery_ambient (s : State) (f : Frame) : (s.takeDelivery f).ambient = s.ambient := by
  have acks : ∀ l : List AckEntry, (l.foldl (fun s a => s.applyAck f.header.sender a) s).ambient = s.ambient := fun l =>
    State.ambient_foldl (fun s a => s.applyAck_ambient _ a) l s
  unfold State.takeDelivery
  split
  · dsimp only; split <;> simp [acks]
  · rfl

@[simp] theorem State.acceptMatching_ambient (s : State) (f : Frame) (span : FrameSpan) (arrives : Bool) :
    (s.acceptMatching f span arrives).ambient = s.ambient := by
  have decided := s.decideTiming_ambient f.header arrives
  simp only [State.acceptMatching]
  split_ifs <;> simp [State.eitherOrder_ambient, decided]

@[simp] theorem State.accept_ambient (s : State) (f : Frame) (span : FrameSpan) : (s.accept f span).ambient = s.ambient := by
  unfold State.accept
  split
  · rfl
  · split <;> simp

@[simp] theorem State.takeFrame_ambient (s : State) (f : Frame) (span : FrameSpan) :
    (s.takeFrame f span).ambient = s.ambient := by
  unfold State.takeFrame; split <;> simp
@[simp] theorem State.takeUnderWay_ambient (s : State) (bytes : List Byte) : (s.takeUnderWay bytes).ambient = s.ambient := by
  unfold State.takeUnderWay; split <;> simp
@[simp] theorem State.passStart_ambient (s : State) : s.passStart.ambient = s.ambient := by
  unfold State.passStart; split <;> simp
@[simp] theorem State.startPassed_ambient (s : State) : s.startPassed.ambient = s.ambient := by
  unfold State.startPassed; split <;> simp
@[simp] theorem State.receive_ambient (s : State) (bytes : List Byte) (ragged : Bool) (span : FrameSpan) :
    (s.receive bytes ragged span).ambient = s.ambient := by
  obtain ⟨-, h⟩ | ⟨f, -, t, rfl, ⟨-, h⟩ | ⟨-, -, h⟩ | ⟨-, -, h⟩⟩ := s.receive_cases bytes ragged span <;> rw [h]
  · change State.ambient (if span == .overSlotEnd then s else s.startPassed) = s.ambient
    split <;> simp
  · rw [State.accept_ambient]; split <;> simp
  · split <;> simp

/-! ### Own frames -/

@[simp] theorem State.beginFrame_ambient (s : State) (src : FrameSource) (b : FrameBody) :
    (s.beginFrame src b).ambient = s.ambient := rfl
@[simp] theorem State.sendData_ambient (s : State) (p : Option Packet) : (s.sendData p).ambient = s.ambient := rfl
@[simp] theorem State.serveLane_ambient (s : State) (l : Nat) : (s.serveLane l).ambient = s.ambient := by
  simp only [State.serveLane]; split <;> (try split) <;> simp
@[simp] theorem State.serveShared_ambient (s : State) : s.serveShared.ambient = s.ambient := by
  unfold State.serveShared
  split
  · rw [State.serveLane_ambient]; rfl
  · simp
@[simp] theorem State.serveSlot_ambient (s : State) (b : Binding) : (s.serveSlot b).ambient = s.ambient := by
  unfold State.serveSlot
  split
  · simp
  · split <;> (try split) <;> simp
@[simp] theorem State.offerData_ambient (s : State) : s.offerData.ambient = s.ambient := by
  unfold State.offerData; split <;> (try split) <;> simp
@[simp] theorem State.offerControl_ambient (s : State) : s.offerControl.ambient = s.ambient := by
  unfold State.offerControl; split <;> (try split_ifs) <;> rfl
theorem State.startWith_ambient {offer : State → State} (h : ∀ s, (offer s).ambient = s.ambient) (s : State) :
    (s.startWith offer).ambient = s.ambient := by
  unfold State.startWith
  split
  · simp [h]
  · split <;> simp [h]
  · simp [h]
@[simp] theorem State.scheduledStart_ambient (s : State) : s.scheduledStart.ambient = s.ambient := by
  unfold State.scheduledStart; split <;> simp [State.startWith_ambient]
@[simp] theorem State.openStart_ambient (s : State) : s.openStart.ambient = s.ambient := by
  unfold State.openStart; split <;> simp [State.startWith_ambient]

@[simp] theorem State.dataResult_ambient (s : State) (n : Nat) (r : Readback) : (s.dataResult n r).ambient = s.ambient := by
  unfold State.dataResult
  split
  · split
    · simp
    · split
      · simp
      · dsimp only; split <;> simp
  · rfl

@[simp] theorem State.announce_ambient (s : State) (slots : List Nat) : (s.announce slots).ambient = s.ambient := by
  unfold State.announce
  split
  · refine (State.ambient_foldl (f := fun (s : State) n => match s.entry n with
        | .ownClaiming b h _ => s.setEntry n (.ownClaiming b h (some 4))
        | _ => s) (fun s n => ?_) slots s :)
    split <;> simp
  · rfl

@[simp] theorem State.controlClean_ambient (s : State) (f : CtlFrame) : (s.controlClean f).ambient = s.ambient := by
  unfold State.controlClean
  dsimp only; split <;> simp
@[simp] theorem State.claimAbandoned_ambient (s : State) : s.claimAbandoned.ambient = s.ambient := by
  unfold State.claimAbandoned; split <;> (try split) <;> simp
@[simp] theorem State.controlFailed_ambient (s : State) (f : CtlFrame) : (s.controlFailed f).ambient = s.ambient := by
  unfold State.controlFailed
  split
  · split
    · rfl
    · dsimp only; split <;> simp
  · rfl
@[simp] theorem State.reportResult_ambient (s : State) (src : FrameSource) (r : Readback) :
    (s.reportResult src r).ambient = s.ambient := by
  unfold State.reportResult; split <;> simp
@[simp] theorem State.frameEnd_ambient (s : State) (differed : Bool) : (s.frameEnd differed).ambient = s.ambient := by
  unfold State.frameEnd
  split
  · rfl
  · dsimp only
    split
    · rfl
    · split
      · rw [State.reportResult_ambient]; rfl
      · split
        · rw [State.reportResult_ambient]; rfl
        · rw [State.enterFault_ambient]; rfl

/-! ### Counts -/

@[simp] theorem State.relearnStep_ambient (s : State) : s.relearnStep.ambient = s.ambient := rfl

@[simp] theorem State.settleStep_ambient (s : State) : s.settleStep.ambient = s.ambient := by
  unfold State.settleStep
  split
  · rfl
  · split
    · simp
    · rfl
  · rfl
@[simp] theorem State.listenStep_ambient (s : State) : s.listenStep.ambient = s.ambient := by
  unfold State.listenStep; split_ifs <;> (try rw [State.homePick_ambient]) <;> rfl
@[simp] theorem State.waitingStep_ambient (s : State) : s.waitingStep.ambient = s.ambient := by
  unfold State.waitingStep; split <;> simp
@[simp] theorem State.leaveStep_ambient (s : State) : s.leaveStep.ambient = s.ambient := by
  unfold State.leaveStep
  split
  · split
    · rfl
    · simp
  · rfl
@[simp] theorem State.peerStep_ambient (s : State) (p : Nat) : (s.peerStep p).ambient = s.ambient := by
  simp only [State.peerStep]; split_ifs <;> simp
@[simp] theorem State.deadlineStep_ambient (s : State) (l : Nat) (q : Seq) : (s.deadlineStep l q).ambient = s.ambient := by
  unfold State.deadlineStep; split <;> (try split) <;> simp
@[simp] theorem State.dueStep_ambient (s : State) (d : Due) : (s.dueStep d).ambient = s.ambient := by
  cases d <;> simp [State.dueStep, State.busyStep]
@[simp] theorem State.takeDue_ambient (s : State) (d : Due) : (s.takeDue d).ambient = s.ambient := by
  obtain ⟨-, h⟩ | ⟨-, h⟩ := s.takeDue_cases d <;> rw [h]
  rw [State.dueStep_ambient]; rfl
@[simp] theorem State.catchUp_ambient (s : State) : s.catchUp.ambient = s.ambient :=
  State.ambient_foldl State.takeDue_ambient _ _
@[simp] theorem State.countSlot_ambient (s : State) (n : Nat) : (s.countSlot n).ambient = s.ambient := by
  unfold State.countSlot
  split <;> (try split_ifs) <;> rfl
@[simp] theorem State.endSlot_ambient (s : State) : s.endSlot.ambient = s.ambient := s.countSlot_ambient _

theorem State.ifActive_ambient {f : State → State} (h : ∀ s, (f s).ambient = s.ambient) (s : State) :
    (s.ifActive f).ambient = s.ambient := by
  unfold State.ifActive; split <;> simp [h]

@[simp] theorem State.slotEnd_ambient (s : State) : s.slotEnd.ambient = s.ambient := by
  unfold State.slotEnd
  split
  · rw [State.ifActive_ambient fun s => ?_, State.startPassed_ambient]
    rw [State.ifActive_ambient State.endSlot_ambient, State.catchUp_ambient]
  · rfl

@[simp] theorem State.cycleCounts_ambient (s : State) : s.cycleCounts.ambient = s.ambient := by
  simp only [State.cycleCounts, State.mapLanes_ambient, apply_ite State.ambient, State.relearnStep_ambient,
    State.leaveStep_ambient, State.listenStep_ambient, State.settleStep_ambient, ite_self]
  rfl

@[simp] theorem State.cycleStart_ambient (s : State) : s.cycleStart.ambient = s.ambient := by
  unfold State.cycleStart
  split
  · rw [State.ifActive_ambient fun s => ?_, State.catchUp_ambient]
    exact s.beginCycle.cycleCounts_ambient
  · rfl

@[simp] theorem State.absenceNext_ambient (s : State) : s.absenceNext.ambient = s.ambient := by
  unfold State.absenceNext; split <;> simp
@[simp] theorem State.deadlineNext_ambient (s : State) (l : Nat) : (s.deadlineNext l).ambient = s.ambient := by
  unfold State.deadlineNext; split <;> (try split) <;> simp

/-! ### The host port -/

@[simp] theorem State.endTransaction_ambient (s : State) : s.endTransaction.ambient = s.ambient := by
  unfold State.endTransaction
  split
  · simp
  · rfl
@[simp] theorem State.answered_ambient (s : State) (c : Instr) (st : Status) (data : List Byte) (e : Ending) :
    (s.answered c st data e).ambient = s.ambient := rfl
@[simp] theorem State.refuse_ambient (s : State) (st : Status) : (s.refuse st).1.ambient = s.ambient := rfl
@[simp] theorem State.fetchRemoval_ambient (s : State) : s.fetchRemoval.ambient = s.ambient := by
  unfold State.fetchRemoval; split <;> rfl
@[simp] theorem State.eventRemoval_ambient (s : State) : s.eventRemoval.ambient = s.ambient := by
  unfold State.eventRemoval
  split
  · simp [State.ambient]
  · rfl

end Sys2Proof.Machine

/-!
PROOFS. The host port: what each command's transaction does, and the state after every command of the table.
-/

namespace Sys2Proof

/-- The host commands that answer: a transaction cut short gives no command (R155). -/
def Instr.isAnswered (c : Instr) : Bool :=
  match c with
  | .commandDiscard _ => false
  | c => c.isTransaction

theorem Instr.isAnswered_iff (c : Instr) :
    c.isAnswered = true ↔ c.isTransaction = true ∧ ∀ bytes, c ≠ .commandDiscard bytes := by
  cases c <;> simp [Instr.isAnswered, Instr.isTransaction]

end Sys2Proof

namespace Sys2Proof.Machine

/-! ### The state after a command -/

/-- What a host command does and answers when its transaction takes it; `exec_answered` ties it to the model. -/
def State.reply (c : Instr) (s : State) : State × Reply :=
  match c with
  | .configure a => s.configure a
  | .join => s.join
  | .leave => s.leave
  | .reserve lane n => s.reserve lane n
  | .release lane => s.release lane
  | .append lane count payload => s.onLane s.station.life.loads lane (TxLane.appendCounted count payload)
  | .commit lane => s.onLane s.station.life.loads lane TxLane.commit
  | .flush lane => s.onLane s.station.life.onLink lane fun t => (some t.flush, .ok)
  | .resume lane => s.onLane s.station.life.onLink lane TxLane.resume
  | .fetch lane => s.fetch lane
  | .readEvent => s.readEvent
  | .readStatus => s.readStatus
  | .readSlot slot => s.readSlot slot
  | .readPeer address => s.readPeer address
  | .reset => (s, ⟨.ok, [], .reset⟩)
  | _ => s.refuse .unknown

/-- The state after a command; `exec_eq` ties it to the model. -/
def State.after (c : Instr) (s : State) : State :=
  match c with
  | .commandDiscard _ | .resetAct => if s.held then s else s.endTransaction
  | .fetchRemoval => if s.held then s else s.fetchRemoval
  | .eventRemoval => if s.held then s else s.eventRemoval
  | .powerOn => s.powerOnValues ⟨s.power.rstnLow, false⟩
  | .rstnFall => s.powerOnValues ⟨true, s.power.settled⟩
  | .rstnRise => { s with power.rstnLow := false }
  | .supplySettled => { s with power.settled := true }
  | .receiveFrame bytes ragged span => s.receive bytes ragged span
  | .scheduledSlotStart => s.scheduledStart
  | .openSlotStart => s.openStart
  | .ownFrameEnd differed => s.frameEnd differed
  | .cycleStart => s.cycleStart
  | .slotEnd => s.slotEnd
  | .lapse n => s.ifActive (·.takeDue (.lapse n))
  | .yieldWindowExpire n => s.ifActive (·.takeDue (.yieldEnd n))
  | .pendingExpiry n => s.ifActive (·.takeDue (.pendingExpiry n))
  | .barExpire n => s.ifActive (·.takeDue (.barExpire n))
  | .settleExpire => s.ifActive (·.takeDue .settle)
  | .listenEnd => s.ifActive (·.takeDue .listenEnd)
  | .waitingHomePick => s.ifActive (·.takeDue .waitingPick)
  | .leaveTimeout => s.ifActive (·.takeDue .leaveTimeout)
  | .peerAbsence => s.ifActive (·.absenceNext)
  | .deadlineReached l => s.ifActive (·.deadlineNext l)
  | .relearnHoldExpire => s.ifActive (·.takeDue .relearnHold)
  | .busyHoldExpire l => s.ifActive (·.takeDue (.busyHold l))
  | c => s.take c (State.reply c)

/-- Every command of the table has a next state. -/
theorem exec_eq (c : Instr) (s : State) : exec c s = .next (s.after c) := by
  cases c <;> rfl

/-- A host command is taken in a transaction of its own. -/
theorem State.after_answered {c : Instr} (answers : c.isAnswered = true) (s : State) :
    s.after c = s.take c (State.reply c) := by
  cases c <;> simp_all [Instr.isAnswered, Instr.isTransaction, State.after]

section
variable {c : Instr} {s t : State} (answers : c.isAnswered = true) (ready : s.PortReady)
include answers ready

/-- A command taken on a ready port leaves its effect and its answer. -/
theorem exec_answered :
    exec c s = .next
      (let r := State.reply c { s with port.transaction := none }
      r.1.answered c r.2.status r.2.data r.2.ending) := by
  rw [exec_eq, State.after_answered answers, State.take_ready ready]

/-- The same where effect and reply are known. -/
theorem exec_of_reply {r : Reply} (reply : State.reply c { s with port.transaction := none } = (t, r)) :
    exec c s = .next (t.answered c r.status r.data r.ending) := by
  rw [exec_answered answers ready, reply]

/-- A command refused on a ready port leaves the state with its status as the answer. -/
theorem exec_of_refusal {st : Status}
    (refusal : State.reply c { s with port.transaction := none } = State.refuse { s with port.transaction := none } st) :
    exec c s = .next (s.answered c st) :=
  exec_of_reply answers ready refusal

end

/-- What a host command does leaves pins and waiting commands alone. -/
@[simp] theorem State.reply_ambient (c : Instr) (s : State) : (s.reply c).1.ambient = s.ambient := by
  have onLane : ∀ taken lane f, (s.onLane taken lane f).1.ambient = s.ambient := fun taken lane f => by
    unfold State.onLane
    split_ifs <;> (try split) <;> rfl
  cases c with
  | configure a => change (s.configure a).1.ambient = _; unfold State.configure; split_ifs <;> rfl
  | join => change s.join.1.ambient = _; unfold State.join; split_ifs <;> rfl
  | leave => change s.leave.1.ambient = _; unfold State.leave; split <;> simp [State.beginLeaving]; rfl
  | reserve lane n =>
    change (s.reserve lane n).1.ambient = _
    unfold State.reserve
    split_ifs
    case neg => simp only [State.claimSlots, State.appendControl_ambient, State.foldl_setEntry]; rfl
    all_goals rfl
  | release lane =>
    change (s.release lane).1.ambient = _
    unfold State.release
    split_ifs
    case neg => simp only [State.releaseLane]; split <;> simp <;> rfl
    all_goals rfl
  | append | commit | flush | resume => exact onLane _ _ _
  | fetch lane => change (s.fetch lane).1.ambient = _; unfold State.fetch; split_ifs <;> (try split) <;> rfl
  | readEvent => change s.readEvent.1.ambient = _; unfold State.readEvent; split <;> rfl
  | readSlot slot => change (s.readSlot slot).1.ambient = _; unfold State.readSlot; split_ifs <;> rfl
  | readPeer address => change (s.readPeer address).1.ambient = _; unfold State.readPeer; split_ifs <;> rfl
  | _ => rfl

/-- No command touches the waiting commands. -/
theorem State.after_pending (c : Instr) (s : State) : (s.after c).pending = s.pending := by
  have pending : ∀ {t : State}, t.ambient = s.ambient → t.pending = s.pending := fun h => (State.ambient_eq h).2
  cases c with
  | powerOn | rstnFall | rstnRise | supplySettled => rfl
  | commandDiscard | resetAct => simp only [State.after]; split; exacts [rfl, pending s.endTransaction_ambient]
  | fetchRemoval => simp only [State.after]; split; exacts [rfl, pending s.fetchRemoval_ambient]
  | eventRemoval => simp only [State.after]; split; exacts [rfl, pending s.eventRemoval_ambient]
  | receiveFrame => exact pending (s.receive_ambient _ _ _)
  | scheduledSlotStart => exact pending s.scheduledStart_ambient
  | openSlotStart => exact pending s.openStart_ambient
  | ownFrameEnd => exact pending (s.frameEnd_ambient _)
  | cycleStart => exact pending s.cycleStart_ambient
  | slotEnd => exact pending s.slotEnd_ambient
  | lapse | yieldWindowExpire | pendingExpiry | barExpire | settleExpire | listenEnd | waitingHomePick | leaveTimeout
  | relearnHoldExpire | busyHoldExpire => exact pending (State.ifActive_ambient (fun s => s.takeDue_ambient _) s)
  | peerAbsence => exact pending (State.ifActive_ambient State.absenceNext_ambient s)
  | deadlineReached l => exact pending (State.ifActive_ambient (fun s => s.deadlineNext_ambient l) s)
  | _ =>
    refine pending ?_
    rw [State.after_answered rfl]
    unfold State.take
    split
    · rfl
    · exact (State.answered_ambient _ _ _ _ _).trans ((State.reply_ambient _ _).trans s.endTransaction_ambient)

end Sys2Proof.Machine

namespace Sys2Proof.Machine

/-! ### Refused commands (R157) -/

/-- The reply gives OK, or the command was refused. -/
def State.OkOrRefused (s : State) (r : State × Reply) : Prop := r.2.status = .ok ∨ r = s.refuse r.2.status

@[simp] theorem State.okOrRefused_refuse (s : State) (st : Status) : s.OkOrRefused (s.refuse st) := .inr rfl

@[simp] theorem State.okOrRefused_ok (s t : State) (data : List Byte) (e : Ending) : s.OkOrRefused (t, ⟨.ok, data, e⟩) :=
  .inl rfl

/-- An act on a lane that changes it answers OK. -/
theorem State.onLane_okOrRefused {s : State} {taken : Bool} {lane : Byte} {f : TxLane → Option TxLane × Status}
    (changes : ∀ t u st, f t = (some u, st) → st = .ok) : s.OkOrRefused (s.onLane taken lane f) := by
  unfold State.onLane
  split_ifs <;> try exact s.okOrRefused_refuse _
  split
  · next t st h => exact .inl (changes _ _ _ h)
  · exact s.okOrRefused_refuse _

theorem TxLane.append_changes {t u : TxLane} {bytes : List Byte} {st : Status} (h : t.append bytes = (some u, st)) :
    st = .ok := by
  unfold TxLane.append at h
  split at h <;> split_ifs at h <;> cases h <;> rfl

theorem TxLane.appendCounted_changes {count : Byte} {payload : List Byte} {t u : TxLane} {st : Status}
    (h : t.appendCounted count payload = (some u, st)) : st = .ok := by
  unfold TxLane.appendCounted at h
  split at h
  · exact TxLane.append_changes h
  · cases h

theorem TxLane.commit_changes {t u : TxLane} {st : Status} (h : t.commit = (some u, st)) : st = .ok := by
  unfold TxLane.commit at h
  split at h
  · cases h; rfl
  · cases h

theorem TxLane.resume_changes {t u : TxLane} {st : Status} (h : t.resume = (some u, st)) : st = .ok := by
  unfold TxLane.resume at h
  split at h
  · cases h; rfl
  · cases h

/-- Every host command answers OK or is refused with nothing changed. -/
theorem State.reply_okOrRefused (c : Instr) (s : State) : s.OkOrRefused (s.reply c) := by
  cases c with
  | append lane count payload => exact State.onLane_okOrRefused fun _ _ _ => TxLane.appendCounted_changes
  | commit lane => exact State.onLane_okOrRefused fun _ _ _ => TxLane.commit_changes
  | flush lane => exact State.onLane_okOrRefused fun _ _ _ h => by cases h; rfl
  | resume lane => exact State.onLane_okOrRefused fun _ _ _ => TxLane.resume_changes
  | configure a => change s.OkOrRefused (s.configure a); unfold State.configure; split_ifs <;> simp
  | join => change s.OkOrRefused s.join; unfold State.join; split_ifs <;> simp
  | leave => change s.OkOrRefused s.leave; unfold State.leave; split <;> simp
  | reserve lane n => change s.OkOrRefused (s.reserve lane n); unfold State.reserve; split_ifs <;> simp
  | release lane => change s.OkOrRefused (s.release lane); unfold State.release; split_ifs <;> simp
  | fetch lane =>
    change s.OkOrRefused (s.fetch lane)
    unfold State.fetch
    split_ifs
    · simp
    · simp
    · split <;> simp
  | readEvent => change s.OkOrRefused s.readEvent; unfold State.readEvent; split <;> simp
  | readSlot slot => change s.OkOrRefused (s.readSlot slot); unfold State.readSlot; split_ifs <;> simp
  | readPeer address => change s.OkOrRefused (s.readPeer address); unfold State.readPeer; split_ifs <;> simp
  | readStatus | reset => exact s.okOrRefused_ok _ _ _
  | _ => exact s.okOrRefused_refuse _

/-! ### A station held in reset (R169) -/

theorem State.active_held {s : State} (held : s.held = true) : s.active = false := by simp [State.active, held]

theorem State.ifActive_idle {s : State} (h : s.active = false) (f : State → State) : s.ifActive f = s := by
  simp [State.ifActive, h]

theorem State.hears_idle {s : State} (h : s.active = false) (span : FrameSpan) : s.hears span = false := by
  simp [State.hears, State.receives, h]

theorem State.waits_idle {s : State} (h : s.active = false) (span : FrameSpan) : s.waits span = false := by
  simp [State.waits, State.receives, h]

/-- While the timer is stopped no frame is taken. -/
theorem State.receive_idle {s : State} (h : s.active = false) (bytes : List Byte) (ragged : Bool) (span : FrameSpan) :
    s.receive bytes ragged span = s := by
  unfold State.receive State.takeFrame
  split
  · simp [State.startPassed_idle (.inl h), State.waits_idle h, State.hears_idle h]
  · rfl

/-- While the timer is stopped no slot starts. -/
theorem State.scheduledStart_idle {s : State} (h : s.active = false) : s.scheduledStart = s := by
  simp [State.scheduledStart, State.atSlotStart, h]

theorem State.openStart_idle {s : State} (h : s.active = false) : s.openStart = s := by
  simp [State.openStart, State.atSlotStart, h]

theorem State.cycleStart_inactive {s : State} (h : s.active = false) : s.cycleStart = s :=
  State.cycleStart_idle (by simp [State.cycleEnds, h])

theorem State.frameEnd_none {s : State} (h : s.line.own = none) (differed : Bool) : s.frameEnd differed = s := by
  simp [State.frameEnd, h]

/-- The commands that act on a station held in reset. -/
theorem State.after_held {s : State} {c : Instr} (held : s.held = true) (quiet : s.line.own = none)
    (other : c ∉ [.powerOn, .rstnFall, .rstnRise, .supplySettled]) : s.after c = s := by
  have idle := State.active_held held
  cases c with
  | powerOn | rstnFall | rstnRise | supplySettled => simp at other
  | commandDiscard | resetAct | fetchRemoval | eventRemoval => exact if_pos held
  | receiveFrame bytes ragged span => exact State.receive_idle idle bytes ragged span
  | scheduledSlotStart => exact State.scheduledStart_idle idle
  | openSlotStart => exact State.openStart_idle idle
  | ownFrameEnd differed => exact State.frameEnd_none quiet differed
  | cycleStart => exact State.cycleStart_inactive idle
  | slotEnd => exact State.slotEnd_idle (.inl idle)
  | lapse | yieldWindowExpire | pendingExpiry | barExpire | settleExpire | listenEnd | waitingHomePick | leaveTimeout
  | peerAbsence | relearnHoldExpire | busyHoldExpire => exact State.ifActive_idle idle _
  | deadlineReached l => exact State.ifActive_idle idle (·.deadlineNext l)
  | _ => exact State.take_held held _ _

/-- INT is high while there is nothing to read. -/
theorem State.intLow_of_empty {s : State} (events : s.port.events = []) (lanes : ∀ l ∈ s.rx.lanes, l = []) :
    s.intLow = false := by
  have quiet : ((s.rx.lanes.zip s.rx.notify).any fun (lane, notify) => notify && !lane.isEmpty) = false := by
    simp only [List.any_eq_false]
    rintro ⟨l, b⟩ mem
    simp [lanes l (List.of_mem_zip mem).1]
  simp only [State.intLow, events, quiet]
  simp

/-! ### RESET (R168) -/

theorem State.resetAct_eq (s : State) :
    s.resetAct = { s with
      line := ⟨none, 0, false, [], false, none⟩
      timer := ⟨0, 0, s.station.address, false, 0, .running, none, []⟩
      station := ⟨if s.station.code = none then .unconfigured else .offline, s.station.address, s.station.code, 0, false, 0⟩
      sched := ⟨List.replicate s.scheduled .free, none⟩
      sender := ⟨[], none, 0⟩
      peers := List.replicate 62 ⟨false, 0, false⟩
      tx := ⟨s.tx.lanes.map fun t => ⟨t.config, none, [], 0, false, 0, 0⟩, 3⟩
      delivery := ⟨List.replicate 248 none, []⟩
      rx := ⟨List.replicate 4 [], s.rx.notify⟩
      port := ⟨[], 0, none⟩ } := by
  cases code : s.station.code <;> simp only [State.resetAct, State.clearLink, code] <;> rfl

@[simp] theorem State.resetAct_held (s : State) : s.resetAct.held = s.held := rfl

/-- The end of a transaction leaves nothing that a further one would end. -/
theorem State.endTransaction_resetAct (s : State) : s.resetAct.endTransaction = s.resetAct := rfl

/-- A RESET that waits acts before whatever the next transaction brings (log entry 9). -/
theorem State.after_resetWaits {s : State} {c : Instr} (host : c.isTransaction = true) (held : s.held = false)
    (waits : s.resetWaits = true) : s.after c = s.resetAct.after c := by
  by_cases discard : ∃ bytes, c = .commandDiscard bytes
  · obtain ⟨bytes, rfl⟩ := discard
    simp [State.after, held, State.endTransaction_reset waits, State.endTransaction_resetAct]
  · have answers := (Instr.isAnswered_iff c).2 ⟨host, not_exists.1 discard⟩
    simp [State.after_answered answers, State.take, held, State.endTransaction_reset waits,
      State.endTransaction_resetAct]

end Sys2Proof.Machine

namespace Sys2Proof.Proofs

open Sys2Proof.Machine

/-- Settles O1. -/
theorem stepRunsFrontCommand : Obligations.StepRunsFrontCommand := by
  intro s
  refine ⟨fun c rest front => ?_, fun idle => ?_⟩
  · simp [step, front]
  · simp [step, idle]

/-- Settles O2: every command has a next state, and pins and waiting commands are the outside's. -/
theorem everyCommandCompletes : Obligations.EveryCommandCompletes := by
  intro c s
  exact ⟨s.after c, exec_eq c s, s.after_pending c⟩

/-- Settles O15: no transaction is taken, no timer runs, and no own frame is on the line. -/
theorem heldInResetTakesNothing : Obligations.HeldInResetTakesNothing := by
  intro s c held quiet other
  rw [exec_eq, State.after_held held quiet other]

/-- Settles O16: a reply other than OK is a refusal, which has no data and no further effect. -/
theorem refusedCommandChangesNothing : Obligations.RefusedCommandChangesNothing := by
  intro s t c before status data ending host ready next answer notOk
  by_cases discard : ∃ bytes, c = .commandDiscard bytes
  · obtain ⟨bytes, rfl⟩ := discard
    rw [exec_eq, Host.Outcome.next.injEq] at next
    subst next
    simp [State.after, ready.1, State.endTransaction_ready ready.2] at answer
  · rw [exec_answered ((Instr.isAnswered_iff c).2 ⟨host, not_exists.1 discard⟩) ready, Host.Outcome.next.injEq] at next
    subst next
    obtain ⟨-, ⟨rfl, rfl⟩, rfl⟩ : _ ∧ (_ ∧ _) ∧ _ := by simpa [State.answered] using answer
    obtain ok | refused := State.reply_okOrRefused c { s with port.transaction := none }
    · simp [ok] at notOk
    · rw [refused]
      exact ⟨rfl, rfl, rfl⟩

/-- Settles O18. -/
theorem joinStartsListening : Obligations.JoinStartsListening := by
  intro s ready
  refine ⟨fun elsewhere => exec_of_refusal rfl ready ?_, fun offline => ?_⟩
  · exact if_neg (by simpa using elsewhere)
  · exact exec_of_reply (c := .join) rfl ready (if_pos (by simpa using offline))

/-- Settles O30. -/
theorem resetTakenThenActs : Obligations.ResetTakenThenActs := by
  intro s acted
  have acts : s.resetAct = acted := s.resetAct_eq
  refine ⟨fun ready => exec_of_reply rfl ready rfl, fun held waits => ⟨?_, ?_⟩, fun ready => ?_, fun c host held waits => ?_⟩
  · simp only [exec_eq, State.after, held, State.endTransaction_reset waits, acts, Bool.false_eq_true, if_false]
  · exact State.intLow_of_empty rfl fun l hl => List.eq_of_mem_replicate hl
  · simp only [exec_eq, State.after, ready.1, State.endTransaction_ready ready.2, Bool.false_eq_true, if_false]
  · rw [exec_eq, exec_eq, State.after_resetWaits host held waits, acts]

/-- Settles O31. -/
theorem powerOnValues : Obligations.PowerOnValues := by
  intro s values
  exact ⟨rfl, rfl, rfl, rfl, fun power => State.intLow_of_empty rfl fun l hl => List.eq_of_mem_replicate hl⟩

/-- Settles O32: MISO shows the answer of a taken command behind the bytes that came in. -/
theorem unknownAndDiscarded : Obligations.UnknownAndDiscarded := by
  intro s code received
  refine ⟨fun ready => ⟨exec_of_refusal rfl ready rfl, ?_⟩, fun c host held whole => ?_, fun k silent => ?_⟩
  · simp [exec_eq, State.after, ready.1, State.endTransaction_ready ready.2]
  · have answers := (Instr.isAnswered_iff c).2 ⟨host, whole⟩
    let r := State.reply c s.endTransaction
    have next : exec c s = .next (r.1.answered c r.2.status r.2.data r.2.ending) := by
      rw [exec_eq, State.after_answered answers, State.take, if_neg (by simp [held])]
      rfl
    have free : r.1.held = false := by
      have power : r.1.power = s.power :=
        (State.ambient_eq ((State.reply_ambient c _).trans s.endTransaction_ambient)).1
      rw [State.held, power, ← State.held, held]
    refine ⟨_, _, _, _, next, free, rfl, fun k early => ?_, ?_, fun k inData => ?_, fun k late => ?_⟩
    all_goals rw [State.miso_answered free]
    · rw [if_pos early]
    · simp
    · have behind : c.transactionBytes.length + 1 + k - c.transactionBytes.length = k + 1 := by omega
      rw [if_neg (by omega), behind, List.getD_cons_succ, List.getD_eq_getElem _ _ inData]
    · rw [if_neg (by omega), List.getD_eq_default _ _ (by simp; omega)]
  · obtain held | high := silent
    · simp [State.miso, held]
    · simp [State.miso, high]

end Sys2Proof.Proofs

/-!
PROOFS. What the host reads: records, event queue and INT (R149, R162 to R166, R176).
-/

namespace Sys2Proof.Machine

/-! ### FETCH and READ_EVENT -/

section
variable {s : State} {lane : Byte}

theorem State.fetch_unconfigured (h : s.station.life = .unconfigured) : s.fetch lane = s.refuse .state := by
  simp [State.fetch, h]

variable (configured : s.station.life ≠ .unconfigured)
include configured

theorem State.fetch_noLane (h : 3 < lane.toNat) : s.fetch lane = s.refuse .arg := by
  simp [State.fetch, configured, h]

variable (inTable : lane.toNat ≤ 3)
include inTable

theorem State.fetch_empty (h : s.rxLane lane.toNat = []) : s.fetch lane = s.refuse .empty := by
  simp [State.fetch, configured, h, inTable]

theorem State.fetch_head {r : RxRecord} {rest : List RxRecord} (h : s.rxLane lane.toNat = r :: rest) :
    s.fetch lane = (s, ⟨.ok, r.bytes, .fetch lane.toNat⟩) := by
  simp [State.fetch, configured, h, inTable]

end

theorem State.readEvent_empty {s : State} (h : s.port.events = []) : s.readEvent = s.refuse .empty := by
  simp [State.readEvent, h]

theorem State.readEvent_head {s : State} {r : EventRecord} {rest : List EventRecord} (h : s.port.events = r :: rest) :
    s.readEvent = (s, ⟨.ok, r.bytes, .event⟩) := by
  simp [State.readEvent, h]

/-! ### READ_SLOT and READ_PEER -/

section
variable {s : State} (configured : s.station.life ≠ .unconfigured)
include configured

theorem State.readPeer_noPeer {address : Byte} (h : ¬ (1 ≤ address.toNat ∧ address.toNat ≤ 62)) :
    s.readPeer address = s.refuse .arg := by
  simp only [State.readPeer, beq_iff_eq, configured, if_false]
  exact if_neg (by simpa using h)

theorem State.readPeer_peer {address : Byte} (one : 1 ≤ address.toNat) (most : address.toNat ≤ 62) :
    s.readPeer address = (s, ⟨.ok, s.peerRecord address.toNat, .none⟩) := by
  simp [State.readPeer, configured, one, most]

theorem State.readSlot_unused {slot : Byte} (h : s.scheduled ≤ slot.toNat) : s.readSlot slot = s.refuse .arg := by
  simp [State.readSlot, configured, h]

theorem State.readSlot_used {slot : Byte} (h : slot.toNat < s.scheduled) :
    s.readSlot slot = (s, ⟨.ok, s.slotRecord slot.toNat, .none⟩) := by
  simp [State.readSlot, configured, h]

end

/-! ### Removals -/

theorem State.after_fetchRemoval {s : State} (held : s.held = false) : s.after .fetchRemoval = s.fetchRemoval := by
  simp [State.after, held]

theorem State.after_eventRemoval {s : State} (held : s.held = false) : s.after .eventRemoval = s.eventRemoval := by
  simp [State.after, held]

theorem State.fetchRemoval_fetch {s : State} {before l : Nat} {response : List Byte}
    (h : s.port.transaction = some ⟨before, response, .fetch l⟩) :
    s.fetchRemoval = { s with
      rx.lanes := s.rx.lanes.modify l List.tail
      port.transaction := some ⟨before, response, .none⟩ } := by
  simp only [State.fetchRemoval, h, State.finishResponse, Option.map_some]

theorem State.fetchRemoval_other {s : State}
    (h : ∀ before response l, s.port.transaction ≠ some ⟨before, response, .fetch l⟩) : s.fetchRemoval = s := by
  unfold State.fetchRemoval
  split
  · next found => exact absurd found (h _ _ _)
  · rfl

theorem State.eventRemoval_event {s : State} {before : Nat} {response : List Byte}
    (h : s.port.transaction = some ⟨before, response, .event⟩) : s.eventRemoval = s.removeEvent.finishResponse := by
  simp [State.eventRemoval, h]

theorem State.eventRemoval_other {s : State}
    (h : ∀ before response, s.port.transaction ≠ some ⟨before, response, .event⟩) : s.eventRemoval = s := by
  unfold State.eventRemoval
  split
  · next found => exact absurd found (h _ _)
  · rfl

/-! ### INT -/

theorem State.held_post (s : State) (e : Event) : (s.post e).held = s.held := by simp [State.held]

/-- A lane with its notify flag set holds a record. -/
theorem any_zip_notify (lanes : List (List RxRecord)) (notify : List Bool) :
    ((lanes.zip notify).any fun (lane, notify) => notify && !lane.isEmpty) = true ↔
      ∃ (l : Nat) (records : List RxRecord), notify[l]? = some true ∧ lanes[l]? = some records ∧ records ≠ [] := by
  simp only [List.any_eq_true, List.mem_iff_getElem?, List.getElem?_zip_eq_some, Prod.exists, Bool.and_eq_true,
    Bool.not_eq_true', List.isEmpty_eq_false_iff]
  constructor
  · rintro ⟨records, _, ⟨l, lane, flag⟩, rfl, some⟩
    exact ⟨l, records, flag, lane, some⟩
  · rintro ⟨l, records, flag, lane, some⟩
    exact ⟨records, true, ⟨l, lane, flag⟩, rfl, some⟩

theorem State.intLow_iff (s : State) :
    s.intLow = true ↔ s.held = false ∧ (s.port.events ≠ []
      ∨ ∃ (l : Nat) (records : List RxRecord), s.rx.notify[l]? = some true ∧ s.rx.lanes[l]? = some records ∧ records ≠ []) := by
  rw [← any_zip_notify]
  simp [State.intLow]

end Sys2Proof.Machine

namespace Sys2Proof.Proofs

open Sys2Proof.Machine

/-- Settles O26. -/
theorem fetchAnswersThenRemoves : Obligations.FetchAnswersThenRemoves := by
  intro s lane
  refine ⟨fun ready h => exec_of_refusal rfl ready (State.fetch_unconfigured h),
    fun ready configured h => exec_of_refusal rfl ready (State.fetch_noLane configured h),
    fun ready configured inTable h => exec_of_refusal rfl ready (State.fetch_empty configured inTable h),
    fun r rest ready configured inTable h => ?_, fun before response l held h => ?_, fun other => ?_⟩
  · exact exec_of_reply (c := .fetch lane) rfl ready
      (State.fetch_head (s := { s with port.transaction := none }) configured inTable h)
  · rw [exec_eq, State.after_fetchRemoval held, State.fetchRemoval_fetch h]
  · rw [exec_eq, State.after, State.fetchRemoval_other other, ite_self]

/-- Settles O27. -/
theorem readEventAnswersThenRemoves : Obligations.ReadEventAnswersThenRemoves := by
  intro s b x haltCode kind
  have bytes : ∀ r : EventRecord, r.bytes =
      [(kind r.event).1, (r.cycle >>> 8).setWidth 8, r.cycle.setWidth 8, (kind r.event).2.1, (kind r.event).2.2] := by
    rintro ⟨e, c⟩
    cases e with
    | left r | slotLost _ r | laneHalted _ r => cases r <;> rfl
    | referenceChanged _ resync => cases resync <;> rfl
    | controlAbandoned k => cases k <;> rfl
    | _ => rfl
  refine ⟨fun ready h => exec_of_refusal rfl ready (State.readEvent_empty h), fun r rest ready h => ?_,
    fun before response held h => ?_, fun other => ?_⟩
  · rw [← bytes r]
    exact exec_of_reply (c := .readEvent) rfl ready (State.readEvent_head (s := { s with port.transaction := none }) h)
  · have lost : (s.port.events.length = 16 ∧ 0 < s.port.lost) ↔
        (decide (s.port.events.length = 16) && s.port.lost != 0) = true := by
      simp [Nat.pos_iff_ne_zero]
    rw [exec_eq, State.after_eventRemoval held, State.eventRemoval_event h]
    simp only [State.removeEvent, lost]
    split <;> simp only [State.finishResponse, h, Option.map_some]
  · rw [exec_eq, State.after, State.eventRemoval_other other, ite_self]

/-- Settles O28. -/
theorem readStatusAndPeerAnswer : Obligations.ReadStatusAndPeerAnswer := by
  intro s address ready r used held laneCode life
  have lifeCode : byteOf s.station.life.code = life := by
    cases h : s.station.life <;> simp only [life, h] <;> rfl
  have code : ∀ l, byteOf (s.lane l).code = laneCode l := fun l => by
    rcases h : s.lane l with ⟨config, halt, _, _, _, _, _⟩
    simp only [laneCode, h]
    rcases config with _ | _ <;> rcases halt with _ | (_ | _ | _) <;> rfl
  refine ⟨?_, fun h => exec_of_refusal (c := .readPeer address) rfl ready ?_,
    fun h noPeer => exec_of_refusal (c := .readPeer address) rfl ready ?_, fun h one most => ?_⟩
  · rw [← lifeCode, ← code, ← code, ← code, ← code, exec_of_reply (c := .readStatus) rfl ready rfl]
    cases home : s.sched.slots.findIdx? Entry.isHome <;>
      simp only [State.statusRecord, State.homeSlot, home] <;> rfl
  · exact if_pos (by simpa using h)
  · exact State.readPeer_noPeer (s := { s with port.transaction := none }) h noPeer
  · have self : (address.toNat == s.station.address) = decide (address.toNat = s.station.address) := rfl
    have record : s.peerRecord address.toNat = [address, if address.toNat = s.station.address then 1 else 0,
        if r.present then 1 else 0, BitVec.ofNat 8 r.silence, if r.mismatch then 1 else 0] := by
      simp [State.peerRecord, byteOf, flagByte, r]
    rw [← record]
    exact exec_of_reply (c := .readPeer address) rfl ready
      (State.readPeer_peer (s := { s with port.transaction := none }) h one most)

/-- Settles O29. -/
theorem readSlotShowsEntry : Obligations.ReadSlotShowsEntry := by
  intro s slot ready b own flag x bound
  have bound_eq : ∀ d : Binding, byteOf d.code = bound d := fun d => by cases d <;> rfl
  have flag_eq : ∀ h : Bool, byteOf h.toNat = flag h := fun h => by cases h <;> rfl
  have slot_eq : byteOf slot.toNat = slot := by simp [byteOf]
  refine ⟨fun h => exec_of_refusal (c := .readSlot slot) rfl ready ?_,
    fun h unused => exec_of_refusal (c := .readSlot slot) rfl ready ?_, fun h used => ?_⟩
  · exact if_pos (by simpa using h)
  · exact State.readSlot_unused (s := { s with port.transaction := none }) h unused
  · have reply := exec_of_reply (c := .readSlot slot) rfl ready
      (State.readSlot_used (s := { s with port.transaction := none }) h used)
    rw [reply]
    have record : State.slotRecord { s with port.transaction := none } slot.toNat = s.slotRecord slot.toNat := rfl
    rw [record]
    simp only [State.slotRecord, slot_eq]
    cases s.entry slot.toNat with
    | ownClaiming d h settle => cases settle <;> dsimp only <;> rw [← bound_eq, ← flag_eq] <;> rfl
    | ownHeld d h | ownYielding d h => dsimp only; rw [← bound_eq, ← flag_eq]; rfl
    | _ => rfl

/-- Settles O48. -/
theorem eventPosted : Obligations.EventPosted := by
  intro s e
  refine ⟨fun room => if_pos room, fun full below => ?_, fun full top => ?_, fun free => ?_, s.intLow_iff⟩
  · rw [State.post, if_neg (by omega), Nat.min_eq_left (by omega)]
  · rw [State.post, if_neg (by omega), Nat.min_eq_right (by omega), ← top]
  · refine (State.intLow_iff _).2 ⟨by rw [State.held_post, free], .inl ?_⟩
    obtain ⟨-, port⟩ | ⟨full, port⟩ := s.post_cases e <;> rw [port]
    · simp
    · exact List.ne_nil_of_length_pos (by dsimp only; omega)

end Sys2Proof.Proofs

/-!
PROOFS. CONFIGURE, LEAVE, RESERVE and RELEASE (R34, R35, R62, R72, R89, R159, R160), and the values after reset.
-/

namespace Sys2Proof

/-! ### The checks of CONFIGURE (R159) -/

theorem LaneArgs.enabled_iff (a : LaneArgs) : a.enabled = true ↔ a.destination ≠ 0 := by simp [LaneArgs.enabled]

theorem LaneArgs.unicast_iff (a : LaneArgs) : a.unicast = true ↔ a.destination ≠ 0 ∧ a.destination ≠ 63 := by
  simp [LaneArgs.unicast, LaneArgs.enabled]

theorem LaneArgs.fits_iff (a : LaneArgs) : a.fits = true ↔
    a.destination.toNat ≤ 63 ∧ a.channel.toNat ≤ 3 ∧ a.maxPayload.toNat ∈ [8, 16, 32]
      ∧ a.share.toNat ∈ [0, 32, 64, 128] ∧ a.maxPayload.toNat ≤ a.share.toNat := by
  simp only [LaneArgs.fits, Bool.and_eq_true, decide_eq_true_eq, List.contains_iff_mem, and_assoc]

/-- The shares of the enabled lanes are what the pool must hold. -/
theorem LaneArgs.sum_pool (lanes : List LaneArgs) :
    (lanes.map LaneArgs.pool).sum = ((lanes.filter LaneArgs.enabled).map (·.share.toNat)).sum := by
  induction lanes with
  | nil => rfl
  | cons a rest ih =>
    by_cases h : a.enabled = true <;> simp [LaneArgs.pool, h, ih]

/-- The unicast lanes pairwise have another destination or another channel (R108). -/
theorem LaneArgs.distinctStreams_iff (lanes : List LaneArgs) :
    LaneArgs.distinctStreams lanes = true ↔
      (lanes.filter LaneArgs.unicast).Pairwise fun l m => (l.destination, l.channel) ≠ (m.destination, m.channel) := by
  induction lanes with
  | nil => simp [LaneArgs.distinctStreams]
  | cons a rest ih =>
    rw [LaneArgs.distinctStreams, Bool.and_eq_true, ih]
    by_cases u : a.unicast = true
    · rw [List.filter_cons_of_pos u, List.pairwise_cons]
      refine and_congr_left' ?_
      simp only [u, Bool.not_true, Bool.false_or, List.all_eq_true, List.mem_filter, and_imp, ne_eq, Prod.mk.injEq,
        Bool.not_eq_true', Bool.eq_false_iff, Bool.and_eq_true, beq_iff_eq, not_and, @eq_comm _ a.destination,
        @eq_comm _ a.channel]
    · rw [List.filter_cons_of_neg u]
      simp [u]

theorem CycleCode.ofNat?_isSome (n : Nat) : (Machine.CycleCode.ofNat? n).isSome = true ↔ n ∈ [1, 2, 3] := by
  unfold Machine.CycleCode.ofNat?
  split <;> simp_all

/-- The checks 2 to 8 of R159 are those of an accepted configuration. -/
theorem ConfigureArgs.consistent_iff (a : ConfigureArgs) : a.consistent = true ↔ a.Accepted := by
  have fits : a.lanes.all (fun l => !l.enabled || l.fits) = true ↔ ∀ l ∈ a.lanes, l.destination ≠ 0 →
      l.destination.toNat ≤ 63 ∧ l.channel.toNat ≤ 3 ∧ l.maxPayload.toNat ∈ [8, 16, 32]
        ∧ l.share.toNat ∈ [0, 32, 64, 128] ∧ l.maxPayload.toNat ≤ l.share.toNat := by
    simp only [List.all_eq_true, Bool.or_eq_true, Bool.not_eq_true', ← LaneArgs.fits_iff, ← LaneArgs.enabled_iff,
      or_iff_not_imp_left, Bool.not_eq_false]
  have foreign : a.lanes.all (fun l => !(l.unicast && l.destination == a.address)) = true ↔
      ∀ l ∈ a.lanes, l.destination ≠ 0 → l.destination ≠ 63 → l.destination ≠ a.address := by
    simp only [List.all_eq_true, Bool.not_eq_true', Bool.eq_false_iff, ne_eq, Bool.and_eq_true, LaneArgs.unicast_iff,
      beq_iff_eq, not_and, and_imp]
  have pool : (a.lanes.map LaneArgs.pool).sum ≤ 256 ↔
      ((a.lanes.filter (·.destination != 0)).map (·.share.toNat)).sum ≤ 256 := by
    rw [LaneArgs.sum_pool]; rfl
  have streams := LaneArgs.distinctStreams_iff a.lanes
  unfold ConfigureArgs.consistent
  simp only [Bool.and_eq_true, decide_eq_true_eq, CycleCode.ofNat?_isSome, fits, foreign, pool, streams, and_assoc]
  rfl

end Sys2Proof

namespace Sys2Proof.Machine

/-! ### CONFIGURE -/

theorem StationState.mem_unlinked (l : StationState) :
    (l == .unconfigured || l == .offline) = true ↔ l ∈ [.unconfigured, .offline] := by
  simp

/-! ### Answers -/

/-- The transaction that a post finds is not read. -/
theorem State.post_answered (s : State) (e : Event) (c : Instr) (st : Status) (data : List Byte) (en : Ending) :
    (State.post { s with port.transaction := none } e).answered c st data en = (s.post e).answered c st data en := by
  simp only [State.post]
  split <;> rfl

theorem State.offLink_answered (s : State) (r : LeftReason) (c : Instr) (st : Status) (data : List Byte) (en : Ending) :
    (State.offLink { s with port.transaction := none } r).answered c st data en = (s.offLink r).answered c st data en := by
  simp only [State.offLink, State.post]
  split <;> rfl

/-! ### LEAVE -/

/-- A JOINED station that is told to leave: a LEAVE frame replaces its queue, and its claim ends (R35, R80, R90). -/
theorem State.beginLeaving_eq (s : State) :
    s.beginLeaving = State.endClaim { s with
      station := { s.station with life := .leaving, leaveCount := 8 }
      line.own := s.line.own.map fun (f : OwnFrame) => match f.source with
        | .control c _ => { f with source := .control c true }
        | .data _ => f
      sender := ⟨[⟨.leave, []⟩], some ⟨0, 2, s.sender.generator % 2⟩, s.nextGenerator⟩ } := by
  unfold State.beginLeaving
  rw [State.replaceQueue_eq]
  rfl

theorem State.leave_refused {s : State} (h : s.station.life ∈ [.unconfigured, .offline, .leaving, .fault]) :
    s.leave = s.refuse .state := by
  unfold State.leave
  split <;> simp_all

/-- Before JOINED there is nothing to announce: the station moves to OFFLINE at once (R34). -/
theorem State.leave_early {s : State} (h : s.station.life ∈ [.listening, .waiting, .joining]) :
    s.leave = (s.offLink .host, ⟨.ok, [], .none⟩) := by
  unfold State.leave
  split <;> simp_all [State.moveOffline_eq]

theorem State.leave_joined {s : State} (h : s.station.life = .joined) :
    s.leave = (s.beginLeaving, ⟨.ok, [], .none⟩) := by
  simp [State.leave, h]

/-! ### Owed acks (R133) -/

/-- An owed ack in the place of an entry: its own where both are for one pair, as `oweAck` has it. -/
def AckEntry.placed (a o : AckEntry) : AckEntry := if o.station == a.station && o.channel == a.channel then a else o

theorem AckEntry.placed_same {a o : AckEntry} (h : (o.station == a.station && o.channel == a.channel) = true) :
    a.placed o = a := if_pos h

/-- The pair of an entry is that of the entry placed there. -/
theorem AckEntry.placed_pair (a o : AckEntry) : ((a.placed o).station, (a.placed o).channel) = (o.station, o.channel) := by
  unfold AckEntry.placed
  split
  · next same =>
    simp only [Bool.and_eq_true, beq_iff_eq] at same
    rw [same.1, same.2]
  · rfl

/-- Entries for other pairs stay. -/
theorem AckEntry.map_placed_others {a : AckEntry} {l : List AckEntry}
    (h : ∀ o ∈ l, (o.station, o.channel) ≠ (a.station, a.channel)) : l.map a.placed = l := by
  refine (List.map_congr_left fun o ho => if_neg ?_).trans l.map_id
  simpa using h o ho

/-- An owed ack keeps the list to eight entries, one to a pair. -/
theorem oweAck_inRange {contexts contexts' : List (Option Seq)} {owed : List AckEntry} {a : AckEntry}
    (h : Delivery.InRange ⟨contexts, owed⟩) : Delivery.InRange ⟨contexts', oweAck owed a⟩ := by
  obtain ⟨eight, pairs⟩ : owed.length ≤ 8 ∧ _ := h
  have pairs_map : (owed.map a.placed).Pairwise fun a b => (a.station, a.channel) ≠ (b.station, b.channel) := by
    refine List.pairwise_map.2 (pairs.imp fun different => ?_)
    rwa [AckEntry.placed_pair, AckEntry.placed_pair]
  unfold oweAck
  split
  · exact ⟨by simpa using eight, pairs_map⟩
  · next noPair =>
    have others : ∀ o ∈ owed, (o.station, o.channel) ≠ (a.station, a.channel) := by simpa using noPair
    have appended : ∀ l : List AckEntry, l.Sublist owed →
        (l ++ [a]).Pairwise fun a b => (a.station, a.channel) ≠ (b.station, b.channel) := fun l sub =>
      List.pairwise_append.2 ⟨pairs.sublist sub, List.pairwise_singleton _ _, fun o ho b hb => by
        rw [List.mem_singleton.1 hb]; exact others o (sub.subset ho)⟩
    split
    · next room => exact ⟨by simp; omega, appended _ (List.Sublist.refl _)⟩
    · exact ⟨by simp only [List.length_append, List.length_tail, List.length_singleton]; omega,
        appended _ (List.tail_sublist _)⟩

end Sys2Proof.Machine

namespace Sys2Proof.Proofs

open Sys2Proof.Machine

/-- Settles O3. -/
theorem resetMeetsInvariants : Obligations.ResetMeetsInvariants := by
  have lanes : ∀ t ∈ State.reset.tx.lanes, t = ⟨none, none, [], 0, false, 0, 0⟩ := fun t => List.eq_of_mem_replicate
  have peers : ∀ r ∈ State.reset.peers, r = ⟨false, 0, false⟩ := fun r => List.eq_of_mem_replicate
  have rx : ∀ l ∈ State.reset.rx.lanes, l = [] := fun l => List.eq_of_mem_replicate
  have contexts : ∀ c ∈ State.reset.delivery.contexts, c = none := fun c => List.eq_of_mem_replicate
  refine ⟨?_, ?_, ?_, ?_, ?_, ?_, ?_, ?_⟩
  · refine ⟨by decide, by decide, by decide, by decide, by decide, by decide, by decide, fun r hr => ?_, fun t ht => ?_,
      by decide, by decide, fun l hl => ?_, by decide⟩
    · simp [peers r hr]
    · simp [lanes t ht]
    · simp [rx l hl]
  · exact ⟨rfl, rfl, rfl, rfl, List.length_replicate, rfl, by decide, nofun, nofun, by decide, nofun⟩
  · decide
  · refine ⟨by decide, nofun, nofun, fun _ => by decide⟩
  · exact ⟨nofun, by decide, by decide, fun _ => rfl, by decide⟩
  · exact fun _ => ⟨rfl, rfl, nofun, rfl, rfl, rfl, rfl, nofun, rfl, rfl, peers, fun t ht => by simp [lanes t ht, TxLane.offline], rfl,
      contexts, rfl, rx⟩
  · refine ⟨nofun, fun i _ valid => ?_, nofun⟩
    have empty : State.reset.delivery.contexts.getD i none = none := by
      change (List.replicate 248 none).getD i none = none
      rw [List.getD_eq_getElem?_getD, List.getElem?_replicate]
      split <;> rfl
    rw [empty] at valid
    contradiction
  · intro t ht
    rw [lanes t ht]
    exact ⟨by decide, by decide, by decide, by decide⟩

/-- Settles O17. -/
theorem configureInstalls : Obligations.ConfigureInstalls := by
  intro s a ready code config
  refine ⟨fun elsewhere => exec_of_refusal (c := .configure a) rfl ready ?_, fun state refused =>
    exec_of_refusal (c := .configure a) rfl ready ?_, fun state accepted => ?_⟩
  · exact if_neg (mt (StationState.mem_unlinked _).1 elsewhere)
  · exact (if_pos ((StationState.mem_unlinked _).2 state)).trans (if_neg (mt a.consistent_iff.1 refused))
  · have taken := exec_of_reply (c := .configure a) rfl ready
      ((if_pos ((StationState.mem_unlinked _).2 state)).trans (if_pos (a.consistent_iff.2 accepted)))
    have lane : ∀ l : LaneArgs, l.config = config l := fun l => by
      by_cases off : l.destination = 0 <;> simp [LaneArgs.config, LaneArgs.enabled, config, off]
    have lanes : TxLane.configured = fun t l => ⟨config l, none, [], t.nextSeq, false, 0, 0⟩ := by
      funext t l
      rw [TxLane.configured, lane]
    rw [taken]
    simp only [State.install, lanes]
    cases named : CycleCode.ofNat? a.code.toNat <;> simp only [code, named] <;> rfl

/-- Settles O19. -/
theorem leaveByState : Obligations.LeaveByState := by
  intro s ready g leaving
  have begun : State.beginLeaving { s with port.transaction := none } =
      { leaving with port.transaction := none }.endClaim := State.beginLeaving_eq _
  refine ⟨fun h => exec_of_refusal (c := .leave) rfl ready (State.leave_refused h), fun h => ?_,
    fun joined noClaim => ?_, fun lane phase joined claim => ?_⟩
  · rw [exec_of_reply (c := .leave) rfl ready (State.leave_early (s := { s with port.transaction := none }) h)]
    simp only [State.offLink_answered]
  · rw [exec_of_reply (c := .leave) rfl ready (State.leave_joined (s := { s with port.transaction := none }) joined)]
    rw [begun, State.endClaim_eq]
    simp only [leaving, noClaim]
    rfl
  · rw [exec_of_reply (c := .leave) rfl ready (State.leave_joined (s := { s with port.transaction := none }) joined)]
    rw [begun, State.endClaim_eq]
    simp only [leaving, claim]
    exact congrArg _ (State.post_answered { leaving with sched := s.unclaimed } _ _ _ _ _)

/-- Settles O46. -/
theorem ackOwedPlaced : Obligations.AckOwedPlaced := by
  intro owed a other
  have same_iff : ∀ o : AckEntry, (o.station == a.station && o.channel == a.channel) = true ↔ ¬ other o := fun o => by
    simp [other]
  have fresh : (∀ o ∈ owed, other o) → oweAck owed a = if owed.length < 8 then owed ++ [a] else owed.tail ++ [a] := by
    intro others
    refine if_neg ?_
    simpa [← Bool.and_eq_true, same_iff] using others
  have replaced : (∃ o ∈ owed, ¬ other o) → oweAck owed a = owed.map (AckEntry.placed a) := by
    rintro ⟨o, mem, same⟩
    exact if_pos (List.any_eq_true.2 ⟨o, mem, (same_iff o).2 same⟩)
  refine ⟨fun before o after split same others => ?_, fun others room => ?_, fun others full => ?_, fun range => ?_⟩
  · rw [replaced ⟨o, by simp [split], same⟩, split, List.map_append, List.map_cons,
      AckEntry.map_placed_others fun b hb => others b (List.mem_append_left _ hb),
      AckEntry.map_placed_others fun b hb => others b (List.mem_append_right _ hb),
      AckEntry.placed_same ((same_iff o).2 same)]
  · rw [fresh others, if_pos room]
  · rw [fresh others, if_neg (Nat.not_lt.2 full)]
  · exact oweAck_inRange range

end Sys2Proof.Proofs

/-!
PROOFS. RESERVE and RELEASE that pass their checks (R62, R72, R88, R89).
-/

namespace Sys2Proof.Machine

/-! ### The control queue -/

/-- An appended frame changes the open-slot sender alone. -/
theorem State.appendControl_eq (s : State) (f : CtlFrame) : s.appendControl f = { s with sender := s.withFrame f } := by
  unfold State.appendControl State.withFrame State.newHead State.nextGenerator
  cases h : s.sender.queue <;> simp

/-! ### RESERVE -/

/-- The claim of an accepted RESERVE (R62). -/
theorem State.claimSlots_eq (s : State) (lane n : Nat) :
    s.claimSlots lane n = { s with
      sched := ⟨s.sched.slots.mapIdx fun k e =>
          if k ∈ (s.slotsWhere (· == .free)).take n then .ownClaiming (.lane lane) false none else e,
        some ⟨.reservation lane, .unsent⟩⟩
      sender := s.withFrame ⟨.claim, (s.slotsWhere (· == .free)).take n⟩ } := by
  simp only [State.claimSlots, State.appendControl_eq, State.foldl_setEntry]
  rfl

/-! ### RELEASE -/

/-- An entry that a RELEASE of the lane meets: freed, made SHARED, or as it was (R72). -/
theorem Entry.share_freeIf (lane : Nat) (e : Entry) :
    (e.freeIf (Entry.releasable lane)).share lane = match e with
      | .ownHeld b h r => if b == .lane lane then (if h then .ownHeld .shared true r else .free) else e
      | .ownYielding b h r w => if b == .lane lane then (if h then .ownYielding .shared true r w else .free) else e
      | e => e := by
  cases e with
  | ownHeld b h r | ownYielding b h r w =>
    by_cases bound : b = .lane lane <;> cases h <;>
      simp [Entry.freeIf, Entry.releasable, Entry.boundTo, Entry.binding?, Entry.isClaiming, Entry.isHome, Entry.share,
        bound]
  | _ => simp [Entry.freeIf, Entry.releasable, Entry.boundTo, Entry.binding?, Entry.isClaiming, Entry.isHome, Entry.share]

/-- The entries that a RELEASE of the lane frees (R72). -/
theorem Entry.releasable_eq (lane : Nat) (e : Entry) :
    Entry.releasable lane e = match e with
      | .ownHeld b false _ | .ownYielding b false _ _ => b == .lane lane
      | _ => false := by
  cases e with
  | ownHeld b h r | ownYielding b h r w =>
    cases h <;> simp [Entry.releasable, Entry.boundTo, Entry.binding?, Entry.isClaiming, Entry.isHome]
  | ownClaiming => simp [Entry.releasable, Entry.isClaiming]
  | _ => simp [Entry.releasable, Entry.boundTo, Entry.binding?]

/-- The table after an accepted RELEASE (R72). -/
def State.released (s : State) (lane : Nat) : State :=
  { s with sched.slots := s.sched.slots.map fun e => (e.freeIf (Entry.releasable lane)).share lane }

/-- An accepted RELEASE hands the slots it frees to the open-slot sender. -/
theorem State.releaseLane_eq (s : State) (lane : Nat) :
    s.releaseLane lane =
      if s.slotsWhere (Entry.releasable lane) = [] then s.released lane
      else (s.released lane).placeRelease (s.slotsWhere (Entry.releasable lane)) := by
  simp only [State.releaseLane, State.freeEntries, State.released, List.map_map, List.isEmpty_iff, Function.comp_def]

section
variable {s : State} {lane : Byte}

theorem State.release_notJoined (h : s.station.life ≠ .joined) : s.release lane = s.refuse .state := by
  simp [State.release, h]

variable (joined : s.station.life = .joined)
include joined

theorem State.release_noLane (h : 3 < lane.toNat) : s.release lane = s.refuse .arg := by
  simp [State.release, joined, h]

variable (inTable : lane.toNat ≤ 3)
include inTable

theorem State.release_claiming (h : ∃ e ∈ s.sched.slots, (e.boundTo lane.toNat && e.isClaiming) = true) :
    s.release lane = s.refuse .busy := by
  have any := List.any_eq_true.2 h
  simp only [State.release, joined, any, inTable]
  simp

theorem State.release_accepted (h : ¬ ∃ e ∈ s.sched.slots, (e.boundTo lane.toNat && e.isClaiming) = true) :
    s.release lane = (s.releaseLane lane.toNat, ⟨.ok, [], .none⟩) := by
  have none_claims := Bool.eq_false_iff.2 (mt List.any_eq_true.1 h)
  simp only [State.release, joined, none_claims, inTable]
  simp

end

/-- An entry is claimed for the lane. -/
theorem Entry.claiming_iff (lane : Nat) (e : Entry) :
    (e.boundTo lane && e.isClaiming) = true ↔ ∃ h settle, e = .ownClaiming (.lane lane) h settle := by
  cases e <;> simp [Entry.boundTo, Entry.binding?, Entry.isClaiming]

/-! ### Where a release goes (R89) -/

/-- The last number below a bound that passes a test. -/
theorem getLast?_filter_range {p : Nat → Bool} {n i : Nat} :
    ((List.range n).filter p).getLast? = some i ↔ i < n ∧ p i = true ∧ ∀ j < n, i < j → p j = false := by
  induction n with
  | zero => simp
  | succ n ih =>
    rw [List.range_succ, List.filter_append, List.filter_cons, List.filter_nil]
    by_cases last : p n = true
    · rw [if_pos last, List.getLast?_concat, Option.some.injEq]
      constructor
      · rintro rfl
        exact ⟨Nat.lt_succ_self _, last, fun j hj h => by omega⟩
      · rintro ⟨hi, _, later⟩
        by_contra other
        have := later n (Nat.lt_succ_self _) (by omega)
        simp [last] at this
    · rw [if_neg last, List.append_nil, ih]
      constructor
      · rintro ⟨hi, pi, later⟩
        refine ⟨by omega, pi, fun j hj h => ?_⟩
        by_cases hn : j = n
        · simpa [hn] using last
        · exact later j (by omega) h
      · rintro ⟨hi, pi, later⟩
        have : i ≠ n := fun hn => last (hn ▸ pi)
        exact ⟨by omega, pi, fun j hj h => later j (by omega) h⟩

/-- A RELEASE frame that a release could join: one of the queue that is not on the line. -/
def joinable (onLine : Bool) (queue : List CtlFrame) (i : Nat) : Bool :=
  (queue.getD i ⟨.leave, []⟩).kind == .release && !(i == 0 && onLine)

theorem mergePlace_def (onLine : Bool) (queue : List CtlFrame) (slots : List Nat) :
    mergePlace onLine queue slots = match ((List.range queue.length).filter (joinable onLine queue)).getLast? with
      | some i => if (queue.getD i ⟨.leave, []⟩).slots.length + slots.length ≤ 8 then some i else none
      | none => none := rfl

theorem joinable_iff {onLine : Bool} {queue : List CtlFrame} {i : Nat} {f : CtlFrame} (h : queue[i]? = some f) :
    joinable onLine queue i = true ↔ f.kind = .release ∧ ¬ (i = 0 ∧ onLine = true) := by
  simp [joinable, h, imp_iff_not_or]

/-- The newest RELEASE frame takes the release where it is not on the line and has room. -/
theorem mergePlace_eq_some {onLine : Bool} {queue : List CtlFrame} {slots : List Nat} {i : Nat} {f : CtlFrame}
    (place : queue[i]? = some f) (release : f.kind = .release) (off : ¬ (i = 0 ∧ onLine = true))
    (newest : ∀ j f', i < j → queue[j]? = some f' → f'.kind ≠ .release) (room : f.slots.length + slots.length ≤ 8) :
    mergePlace onLine queue slots = some i := by
  have last : ((List.range queue.length).filter (joinable onLine queue)).getLast? = some i := by
    refine getLast?_filter_range.2 ⟨(List.getElem?_eq_some_iff.1 place).1, (joinable_iff place).2 ⟨release, off⟩,
      fun j hj later => ?_⟩
    have at_j := List.getElem?_eq_getElem hj
    exact Bool.eq_false_iff.2 fun h => newest j _ later at_j ((joinable_iff at_j).1 h).1
  simp only [mergePlace_def, last, List.getD_eq_getElem?_getD, place, Option.getD_some, if_pos room]

/-- Where the newest such frame has no room, or there is none, the release joins none. -/
theorem mergePlace_eq_none {onLine : Bool} {queue : List CtlFrame} {slots : List Nat}
    (h : ∀ i f, ¬ (queue[i]? = some f ∧ f.kind = .release ∧ ¬ (i = 0 ∧ onLine = true)
      ∧ (∀ j f', i < j → queue[j]? = some f' → f'.kind ≠ .release) ∧ f.slots.length + slots.length ≤ 8)) :
    mergePlace onLine queue slots = none := by
  rw [mergePlace_def]
  split
  · next i last =>
    obtain ⟨hi, pi, later⟩ := getLast?_filter_range.1 last
    have place := List.getElem?_eq_getElem hi
    obtain ⟨release, off⟩ := (joinable_iff place).1 pi
    refine if_neg fun room => h i _ ⟨place, release, off, fun j f' hij at_j isRelease => ?_, ?_⟩
    · have := later j (List.getElem?_eq_some_iff.1 at_j).1 hij
      rw [Bool.eq_false_iff, ne_eq, joinable_iff at_j] at this
      exact this ⟨isRelease, by omega⟩
    · simpa [place] using room
  · rfl

theorem State.placeRelease_joins {s : State} {slots : List Nat} {i : Nat} {f : CtlFrame}
    (h : mergePlace s.headOnLine s.sender.queue slots = some i) (place : s.sender.queue[i]? = some f)
    (release : f.kind = .release) :
    s.placeRelease slots = { s with
      sender.queue := s.sender.queue.set i ⟨.release, slots.foldl (fun l k => insertSlot k l) f.slots⟩ } := by
  have modified : (s.sender.queue.modify i fun f => { f with slots := slots.foldl (fun l n => insertSlot n l) f.slots })
      = s.sender.queue.set i ⟨.release, slots.foldl (fun l k => insertSlot k l) f.slots⟩ := by
    rw [List.modify_eq_set_getElem?, place]
    simp [release]
  simp only [State.placeRelease, h, modified]

theorem State.placeRelease_appends {s : State} {slots : List Nat}
    (h : mergePlace s.headOnLine s.sender.queue slots = none) (room : s.sender.queue.length < 4) :
    s.placeRelease slots = { s with sender := s.withFrame ⟨.release, slots⟩ } := by
  simp only [State.placeRelease, h, if_pos room, State.appendControl_eq]

theorem State.placeRelease_drops {s : State} {slots : List Nat}
    (h : mergePlace s.headOnLine s.sender.queue slots = none) (full : 4 ≤ s.sender.queue.length) :
    s.placeRelease slots = s := by
  simp only [State.placeRelease, h, if_neg (Nat.not_lt.2 full)]

end Sys2Proof.Machine

namespace Sys2Proof.Proofs

open Sys2Proof.Machine

/-- Settles O21: the slots taken are the first FREE ones of the ascending list. -/
theorem reserveClaimsLowestFree : Obligations.ReserveClaimsLowestFree := by
  intro s lane n ready joined inTable enabled one four unclaimed noHold room below enough chosen
  have passes : ∀ c ∈ State.reserveChecks { s with port.transaction := none } lane n, c.1 := by
    simp only [State.reserveChecks, List.forall_mem_cons, List.not_mem_nil, false_implies, implies_true, and_true]
    exact ⟨joined, ⟨inTable, enabled⟩, ⟨one, four⟩, ⟨unclaimed, noHold, room⟩, below, enough⟩
  rw [exec_of_reply (c := .reserve lane n) rfl ready (State.reserve_of_passes passes), State.claimSlots_eq]
  rfl

/-- Settles O22. -/
theorem releaseFreesBoundSlots : Obligations.ReleaseFreesBoundSlots := by
  intro s lane ready bound freed u claiming mergeable
  have claiming_iff : claiming ↔ ∃ e ∈ s.sched.slots, (e.boundTo lane.toNat && e.isClaiming) = true := by
    simp only [Entry.claiming_iff, claiming]
  have freed_eq : s.slotsWhere (Entry.releasable lane.toNat) = freed := by
    simp only [State.slotsWhere, Entry.releasable_eq]; rfl
  have u_eq : s.released lane.toNat = u := by
    simp only [State.released, Entry.share_freeIf]; rfl
  refine ⟨fun h => exec_of_refusal (c := .release lane) rfl ready (State.release_notJoined h),
    fun joined h => exec_of_refusal (c := .release lane) rfl ready
      (State.release_noLane (s := { s with port.transaction := none }) joined h),
    fun joined inTable h => exec_of_refusal (c := .release lane) rfl ready
      (State.release_claiming (s := { s with port.transaction := none }) joined inTable (claiming_iff.1 h)),
    fun joined inTable h => ?_⟩
  have reply := exec_of_reply (c := .release lane) rfl ready
      (State.release_accepted (s := { s with port.transaction := none }) joined inTable (mt claiming_iff.2 h))
  have effect : State.releaseLane { s with port.transaction := none } lane.toNat =
      if freed = [] then { u with port.transaction := none }
      else State.placeRelease { u with port.transaction := none } freed :=
    (State.releaseLane_eq _ _).trans (by rw [← freed_eq, ← u_eq]; rfl)
  let v := { u with port.transaction := none }
  rw [reply, effect]
  refine ⟨fun nothing => ?_, fun i f some merge => ?_, fun some noMerge room => ?_, fun some noMerge full => ?_⟩
  · rw [if_pos nothing]; rfl
  · obtain ⟨place, release, off, newest, room⟩ := merge
    rw [if_neg some, State.placeRelease_joins (s := v) (mergePlace_eq_some place release off newest room) place release]
    rfl
  · rw [if_neg some, State.placeRelease_appends (s := v) (mergePlace_eq_none noMerge) room]; rfl
  · rw [if_neg some, State.placeRelease_drops (s := v) (mergePlace_eq_none noMerge) full]; rfl

end Sys2Proof.Proofs

/-!
PROOFS. The formats: a link frame read from bytes and written to them (R5 to R8, R11, R172, R173), and the host
commands (R155, R175).
-/

namespace Sys2Proof.Machine

/-! ### Bytes -/

theorem byteOf_toNat {n : Nat} (h : n < 256) : (byteOf n).toNat = n := by
  simp only [byteOf, BitVec.toNat_ofNat]
  omega

@[simp] theorem byteOf_byte (b : Byte) : byteOf b.toNat = b := by simp [byteOf]

/-- A word is put together from its two bytes (R171). -/
theorem wordOf_wordBytes (w : BitVec 16) : wordOf ((w >>> 8).setWidth 8) (w.setWidth 8) = w := by
  ext i hi
  by_cases low : i < 8
  · simp [wordOf, low, hi]
  · have : i - 8 < 8 := by omega
    have back : 8 + (i - 8) = i := by omega
    simp [wordOf, low, hi, this, back]

/-- And taken apart into them. -/
theorem wordBytes_wordOf (hi lo : Byte) : wordBytes (wordOf hi lo) = [hi, lo] := by
  have high : ((wordOf hi lo) >>> 8).setWidth 8 = hi := by
    ext i h
    have : 8 + i < 16 := by omega
    simp [wordOf, h, this]
  have low : (wordOf hi lo).setWidth 8 = lo := by
    ext i h
    simp [wordOf]
  rw [wordBytes, high, low]

theorem wordBytes_length (w : BitVec 16) : (wordBytes w).length = 2 := rfl

/-- A byte that carries a flag in its top bit and a sequence in its low three (R172). -/
theorem flagged_toNat (b : Bool) {n : Nat} (h : n < 128) : (byteOf ((if b then 128 else 0) + n)).toNat = (if b then 128 else 0) + n := by
  rw [byteOf_toNat]
  split <;> omega

theorem flagged_top (b : Bool) {n : Nat} (h : n < 128) : (byteOf ((if b then 128 else 0) + n)).getLsbD 7 = b := by
  rw [BitVec.getLsbD, flagged_toNat b h, Nat.testBit_eq_decide_div_mod_eq]
  cases b <;> simp <;> omega

theorem flagged_low (b : Bool) {n : Nat} (h : n < 128) : (byteOf ((if b then 128 else 0) + n)).toNat % 8 = n % 8 := by
  rw [flagged_toNat b h]
  split <;> omega

theorem flagged_seq (b : Bool) (q : Seq) : (byteOf ((if b then 128 else 0) + q.toNat)).setWidth 3 = q := by
  apply BitVec.eq_of_toNat_eq
  have := q.isLt
  rw [BitVec.toNat_setWidth, flagged_low b (by omega)]
  omega

/-- A byte that carries a channel above a station (R172). -/
theorem paired_toNat {channel station : Nat} (hc : channel < 4) (hs : station < 64) :
    (byteOf (channel * 64 + station)).toNat = channel * 64 + station := byteOf_toNat (by omega)

/-! ### Bodies read back -/

theorem AckEntry.ofBytes_bytes {a : AckEntry} (hs : a.station < 64) (hc : a.channel < 4) :
    AckEntry.ofBytes (byteOf (a.channel * 64 + a.station)) (byteOf ((if a.busy then 128 else 0) + a.next.toNat)) = a := by
  have := a.next.isLt
  have station : (a.channel * 64 + a.station) % 64 = a.station := by omega
  have channel : (a.channel * 64 + a.station) / 64 = a.channel := by omega
  rw [AckEntry.ofBytes, paired_toNat hc hs, flagged_seq, flagged_top _ (by omega), station, channel]

theorem readAcks_bytes {acks : List AckEntry} (h : ∀ a ∈ acks, a.station < 64 ∧ a.channel < 4) (tail : List Byte) :
    readAcks acks.length (acks.flatMap AckEntry.bytes ++ tail) = some (acks, tail) := by
  induction acks with
  | nil => rfl
  | cons a acks ih =>
    obtain ⟨station, channel⟩ := h a List.mem_cons_self
    rw [List.flatMap_cons, List.append_assoc, AckEntry.bytes, List.length_cons, List.cons_append, List.cons_append,
      List.nil_append, readAcks, ih fun b hb => h b (List.mem_cons_of_mem _ hb)]
    simp only [AckEntry.ofBytes_bytes station channel]

theorem readPacket_bytes {p : Packet} (hd : p.destination < 64) (hc : p.channel < 4) (one : 1 ≤ p.payload.length)
    (most : p.payload.length ≤ 32) : readPacket p.bytes = some p := by
  have := p.seq.isLt
  have station : (p.channel * 64 + p.destination) % 64 = p.destination := by omega
  have channel : (p.channel * 64 + p.destination) / 64 = p.channel := by omega
  have count : (byteOf p.payload.length).toNat = p.payload.length := byteOf_toNat (by omega)
  simp only [Packet.bytes, List.cons_append, List.nil_append, readPacket, count, paired_toNat hc hd, flagged_seq,
    station, channel, flagged_top p.start (show p.seq.toNat < 128 by omega)]
  simp [one, most]

theorem readSlotList_bytes {slots : List Nat} (one : 1 ≤ slots.length) (most : slots.length ≤ 8)
    (small : ∀ n ∈ slots, n < 256) : readSlotList (byteOf slots.length :: slots.map byteOf) = some slots := by
  have count : (byteOf slots.length).toNat = slots.length := byteOf_toNat (by omega)
  have back : (slots.map byteOf).map BitVec.toNat = slots := by
    rw [List.map_map]
    exact (List.map_congr_left fun n hn => byteOf_toNat (small n hn)).trans slots.map_id
  simp only [readSlotList, count, back, List.length_map]
  simp [one, most]

theorem FrameBody.bytes_data (acks : List AckEntry) (packet : Option Packet) :
    (FrameBody.data acks packet).bytes = byteOf ((if packet.isSome then 128 else 0) + acks.length)
      :: (acks.flatMap AckEntry.bytes ++ packet.elim [] Packet.bytes) := by
  cases packet <;> rfl

theorem Packet.bytes_length (p : Packet) : p.bytes.length = p.payload.length + 3 := by
  simp [Packet.bytes]

theorem readData_bytes {acks : List AckEntry} {packet : Option Packet} (h : (FrameBody.data acks packet).inRange = true) :
    readData (FrameBody.data acks packet).bytes = some (.data acks packet) := by
  simp only [FrameBody.inRange, Bool.and_eq_true, decide_eq_true_eq, List.all_eq_true] at h
  obtain ⟨⟨three, inRange⟩, pk⟩ := h
  have low : (byteOf ((if packet.isSome then 128 else 0) + acks.length)).toNat % 8 = acks.length := by
    rw [flagged_low _ (by omega)]; omega
  rw [FrameBody.bytes_data, readData]
  simp only [low, if_pos three, readAcks_bytes inRange, flagged_top packet.isSome (show acks.length < 128 by omega)]
  cases packet with
  | none => rfl
  | some p =>
    simp only [Bool.and_eq_true, decide_eq_true_eq] at pk
    obtain ⟨⟨⟨hd, hc⟩, one⟩, most⟩ := pk
    simp [readPacket_bytes hd hc one most]

/-- A body in range is read back from its bytes. -/
theorem readBody_bytes {b : FrameBody} (h : b.inRange = true) : readBody b.kindByte b.bytes = some b := by
  cases b with
  | data acks packet => exact readData_bytes h
  | claim slots | release slots =>
    simp only [FrameBody.inRange, Bool.and_eq_true, decide_eq_true_eq, List.all_eq_true] at h
    obtain ⟨⟨one, most⟩, small⟩ := h
    exact congrArg (Option.map _) (readSlotList_bytes one most small)
  | leave => rfl

theorem flatMap_bytes_length (acks : List AckEntry) : (acks.flatMap AckEntry.bytes).length = 2 * acks.length := by
  induction acks with
  | nil => rfl
  | cons a acks ih => rw [List.flatMap_cons, List.length_append, ih, List.length_cons]; simp only [AckEntry.bytes, List.length_cons, List.length_nil]; omega

/-- A body takes up at most 42 bytes, so a frame at most 50 (R173). -/
theorem FrameBody.bytes_length_le {b : FrameBody} (h : b.inRange = true) : b.bytes.length ≤ 42 := by
  cases b with
  | data acks packet =>
    simp only [FrameBody.inRange, Bool.and_eq_true, decide_eq_true_eq, List.all_eq_true] at h
    obtain ⟨⟨three, -⟩, pk⟩ := h
    rw [FrameBody.bytes_data, List.length_cons, List.length_append, flatMap_bytes_length]
    cases packet with
    | none => simp only [Option.elim_none, List.length_nil]; omega
    | some p =>
      simp only [Bool.and_eq_true, decide_eq_true_eq] at pk
      simp only [Option.elim_some, Packet.bytes_length]
      omega
  | claim slots | release slots =>
    simp only [FrameBody.inRange, Bool.and_eq_true, decide_eq_true_eq] at h
    simp [FrameBody.bytes]
    omega
  | leave => simp [FrameBody.bytes]

theorem Header.bytes_length (h : Header) (kind : Nat) : (h.bytes kind).length = 6 := rfl

theorem FrameBody.kindByte_lt (b : FrameBody) : 1 ≤ b.kindByte ∧ b.kindByte ≤ 4 := by
  cases b <;> simp [FrameBody.kindByte]

theorem CycleCode.ofNat?_byte (c : CycleCode) : CycleCode.ofNat? c.byte = some c := by cases c <;> rfl

theorem CycleCode.byte_lt (c : CycleCode) : c.byte < 16 := by cases c <;> decide

theorem CycleCode.scheduled_lt (c : CycleCode) : c.scheduled + 1 < c.slots := by cases c <;> decide

/-- A slot of a frame that fits its kind is one of at most 64. -/
theorem FrameBody.slotFits_lt {b : FrameBody} {c : CycleCode} {n : Nat} (h : b.slotFits c n = true) : n < c.slots := by
  have := c.scheduled_lt
  cases b <;> simp only [FrameBody.slotFits, decide_eq_true_eq, Bool.or_eq_true, beq_iff_eq] at h <;> omega

theorem CycleCode.slots_le (c : CycleCode) : c.slots ≤ 64 := by cases c <;> decide

/-- The bytes of a frame: its header, then its body, then the CRC. -/
theorem Frame.bytes_eq (f : Frame) :
    f.bytes = byteOf (f.body.kindByte * 16 + f.header.code.byte) :: byteOf f.header.sender :: byteOf f.header.slot
      :: (f.header.cycle >>> 8).setWidth 8 :: f.header.cycle.setWidth 8 :: byteOf f.header.reference
      :: (f.body.bytes ++ wordBytes (crc (f.header.bytes f.body.kindByte ++ f.body.bytes))) := rfl

theorem Frame.bytes_length (f : Frame) : f.bytes.length = f.body.bytes.length + 8 := by
  rw [Frame.bytes_eq]
  simp [wordBytes_length]

/-- A valid frame passes every check of its receiver and is read as it was. -/
theorem Frame.read_bytes {own : Nat} {f : Frame} (valid : f.validFor own = true) : Frame.read own f.bytes false = some f := by
  simp only [Frame.validFor, Bool.and_eq_true, decide_eq_true_eq, bne_iff_ne] at valid
  obtain ⟨⟨⟨⟨⟨inRange, fits⟩, reference⟩, one⟩, most⟩, foreign⟩ := valid
  have whole : ¬ (false || decide (50 < f.bytes.length) || crc f.bytes != 0) = true := by
    have short := FrameBody.bytes_length_le inRange
    have closed : crc f.bytes = 0 := crc_closed _
    simp [closed, Frame.bytes_length]
    omega
  have kind := f.body.kindByte_lt
  have code := f.header.code.byte_lt
  have first : (byteOf (f.body.kindByte * 16 + f.header.code.byte)).toNat = f.body.kindByte * 16 + f.header.code.byte :=
    byteOf_toNat (by omega)
  have slot : (byteOf f.header.slot).toNat = f.header.slot :=
    byteOf_toNat (by have := FrameBody.slotFits_lt fits; have := f.header.code.slots_le; omega)
  have sender : (byteOf f.header.sender).toNat = f.header.sender := byteOf_toNat (by omega)
  have ref : (byteOf f.header.reference).toNat = f.header.reference := byteOf_toNat reference
  have low : (f.body.kindByte * 16 + f.header.code.byte) % 16 = f.header.code.byte := by omega
  have high : (f.body.kindByte * 16 + f.header.code.byte) / 16 = f.body.kindByte := by omega
  unfold Frame.read
  rw [if_neg whole, Frame.bytes_eq]
  generalize crc (f.header.bytes f.body.kindByte ++ f.body.bytes) = r
  have body : (f.body.bytes ++ wordBytes r).take ((f.body.bytes ++ wordBytes r).length - 2) = f.body.bytes := by
    simp [wordBytes_length]
  simp only [body, first, low, high, CycleCode.ofNat?_byte, readBody_bytes inRange, slot, sender, ref, wordOf_wordBytes]
  rw [if_neg (by simp [wordBytes_length]), if_pos (by simp [fits, one, most, foreign])]

end Sys2Proof.Machine

namespace Sys2Proof.Proofs

open Sys2Proof.Machine

/-- Settles O12. -/
theorem frameReadsBack : Obligations.FrameReadsBack := fun _ _ => Frame.read_bytes

end Sys2Proof.Proofs

/-!
PROOFS. What a frame read from bytes passed (R11, R173), and the host commands read back (R155, R175).
-/

namespace Sys2Proof.Machine

/-! ### Bodies as their bytes give them -/

theorem pairSpelled_bytes (x y : Byte) : pairSpelled x y (x.toNat % 64) (x.toNat / 64) (y.setWidth 3) (y.getLsbD 7) := by
  refine ⟨by omega, ?_, rfl⟩
  rw [BitVec.toNat_setWidth]

theorem pair_inRange (x : Byte) : x.toNat % 64 < 64 ∧ x.toNat / 64 < 4 := by
  have := x.isLt
  omega

/-- An ack list read is the one that its bytes spell. -/
theorem readAcks_spelled {k : Nat} {bytes tail : List Byte} {acks : List AckEntry}
    (h : readAcks k bytes = some (acks, tail)) :
    acks.length = k ∧ acksSpelled acks bytes tail ∧ (∀ a ∈ acks, a.station < 64 ∧ a.channel < 4)
      ∧ bytes.length = 2 * k + tail.length := by
  induction k generalizing bytes acks with
  | zero =>
    obtain ⟨rfl, rfl⟩ : [] = acks ∧ bytes = tail := by simpa [readAcks] using h
    simp [acksSpelled]
  | succ k ih =>
    match bytes with
    | [] | [_] => simp [readAcks] at h
    | a :: b :: rest =>
      rw [readAcks] at h
      split at h
      · next acks' tail' rest_read =>
        obtain ⟨rfl, rfl⟩ : AckEntry.ofBytes a b :: acks' = acks ∧ tail' = tail := by simpa using h
        obtain ⟨count, spelled, inRange, length⟩ := ih rest_read
        refine ⟨by simp [count], ⟨pairSpelled_bytes a b, spelled⟩, List.forall_mem_cons.2 ⟨pair_inRange a, inRange⟩, ?_⟩
        simp only [List.length_cons, length]
        omega
      · cases h

/-- A packet part read is the one that its bytes spell. -/
theorem readPacket_spelled {bytes : List Byte} {p : Packet} (h : readPacket bytes = some p) :
    (∃ x y, bytes = x :: y :: byteOf p.payload.length :: p.payload ∧ pairSpelled x y p.destination p.channel p.seq p.start)
      ∧ p.destination < 64 ∧ p.channel < 4 ∧ 1 ≤ p.payload.length ∧ p.payload.length ≤ 32 := by
  unfold readPacket at h
  split at h
  · next a b n payload =>
    split at h
    · next fits =>
      simp only [Bool.and_eq_true, decide_eq_true_eq, beq_iff_eq] at fits
      obtain ⟨⟨one, most⟩, count⟩ := fits
      cases h
      refine ⟨⟨a, b, by simp [count], pairSpelled_bytes a b⟩, (pair_inRange a).1, (pair_inRange a).2, ?_, ?_⟩ <;>
        simpa [count]
    · cases h
  · cases h

/-- A slot list read is in range, and its bytes are those it is written as. -/
theorem readSlotList_spelled {bytes : List Byte} {slots : List Nat} (h : readSlotList bytes = some slots) :
    (decide (1 ≤ slots.length) && decide (slots.length ≤ 8) && slots.all (· < 256)) = true
      ∧ bytes = byteOf slots.length :: slots.map byteOf := by
  unfold readSlotList at h
  split at h
  · next n list =>
    split at h
    · next fits =>
      simp only [Bool.and_eq_true, decide_eq_true_eq, beq_iff_eq] at fits
      obtain ⟨⟨one, most⟩, count⟩ := fits
      cases h
      have back : (list.map BitVec.toNat).map byteOf = list := by
        rw [List.map_map]
        exact (List.map_congr_left fun x _ => byteOf_byte x).trans list.map_id
      refine ⟨?_, by simp [back, count]⟩
      simp only [List.length_map, count, one, most, decide_true, Bool.and_self, Bool.true_and, List.all_eq_true,
        decide_eq_true_eq]
      rintro n hn
      obtain ⟨x, -, rfl⟩ := List.mem_map.1 hn
      exact x.isLt
    · cases h
  · cases h

/-- A DATA body read is in range, and its bytes spell it. -/
theorem readData_spelled {bytes : List Byte} {b : FrameBody} (h : readData bytes = some b) :
    b.kindByte = 1 ∧ b.inRange = true ∧ b.spelledBy bytes ∧ b.bytes.length = bytes.length := by
  unfold readData at h
  split at h
  · next d rest =>
    split at h
    · next three =>
      split at h
      · next acks tail read =>
        obtain ⟨count, spelled, inRange, length⟩ := readAcks_spelled read
        have acksOk : (decide (acks.length ≤ 3) && acks.all fun a => decide (a.station < 64) && decide (a.channel < 4)) = true := by
          simp only [Bool.and_eq_true, decide_eq_true_eq, List.all_eq_true]
          exact ⟨count ▸ three, inRange⟩
        split at h
        · next top =>
          obtain ⟨p, packet, rfl⟩ := Option.map_eq_some_iff.1 h
          obtain ⟨⟨x, y, rfl, pair⟩, hd, hc, one, most⟩ := readPacket_spelled packet
          refine ⟨rfl, ?_, ⟨d, rest, x, y, rfl, count.symm, top, spelled, pair⟩, ?_⟩
          · rw [FrameBody.inRange, acksOk]
            simp [hd, hc, one, most]
          · rw [FrameBody.bytes_data]
            simp only [List.length_cons, List.length_append, flatMap_bytes_length, Option.elim_some,
              Packet.bytes_length, length, count]
        · next top =>
          split at h
          · next empty =>
            cases h
            obtain rfl := List.isEmpty_iff.1 empty
            refine ⟨rfl, ?_, ⟨d, rest, rfl, count.symm, by simpa using top, spelled⟩, ?_⟩
            · rw [FrameBody.inRange, acksOk]; rfl
            · rw [FrameBody.bytes_data, List.length_cons, List.length_append, flatMap_bytes_length, count,
                List.length_cons, length]
              rfl
          · cases h
      · cases h
    · cases h
  · cases h

/-- A body read is one of its kind and in range, and its bytes spell it. -/
theorem readBody_spelled {kind : Nat} {bytes : List Byte} {b : FrameBody} (h : readBody kind bytes = some b) :
    b.kindByte = kind ∧ b.inRange = true ∧ b.spelledBy bytes ∧ b.bytes.length = bytes.length := by
  unfold readBody at h
  split at h
  · exact readData_spelled h
  · obtain ⟨slots, read, rfl⟩ := Option.map_eq_some_iff.1 h
    obtain ⟨inRange, rfl⟩ := readSlotList_spelled read
    exact ⟨rfl, inRange, rfl, rfl⟩
  · obtain ⟨slots, read, rfl⟩ := Option.map_eq_some_iff.1 h
    obtain ⟨inRange, rfl⟩ := readSlotList_spelled read
    exact ⟨rfl, inRange, rfl, rfl⟩
  · split at h
    · next empty =>
      cases h
      obtain rfl := List.isEmpty_iff.1 empty
      exact ⟨rfl, rfl, rfl, rfl⟩
    · cases h
  · cases h

theorem CycleCode.byte_ofNat? {n : Nat} {c : CycleCode} (h : CycleCode.ofNat? n = some c) : c.byte = n := by
  unfold CycleCode.ofNat? at h
  split at h <;> cases h <;> rfl

/-- What a frame read from bytes passed: the checks of R11 on the bytes as they are cut. -/
theorem Frame.read_eq_some {own : Nat} {bytes : List Byte} {ragged : Bool} {f : Frame}
    (h : Frame.read own bytes ragged = some f) :
    (ragged = false ∧ bytes.length ≤ 50 ∧ crc bytes = 0)
    ∧ ∃ b0 sender slot c1 c0 ref rest, bytes = b0 :: sender :: slot :: c1 :: c0 :: ref :: rest ∧ 2 ≤ rest.length
      ∧ CycleCode.ofNat? (b0.toNat % 16) = some f.header.code
      ∧ readBody (b0.toNat / 16) (rest.take (rest.length - 2)) = some f.body
      ∧ (f.body.slotFits f.header.code f.header.slot = true ∧ 1 ≤ f.header.sender ∧ f.header.sender ≤ 62
        ∧ f.header.sender ≠ own)
      ∧ f.header.sender = sender.toNat ∧ f.header.slot = slot.toNat ∧ f.header.cycle = wordOf c1 c0
      ∧ f.header.reference = ref.toNat := by
  unfold Frame.read at h
  split at h
  · cases h
  · next whole =>
    refine ⟨by simpa [not_or, and_assoc] using whole, ?_⟩
    split at h
    · next b0 sender slot c1 c0 ref rest =>
      split at h
      · cases h
      · next two =>
        split at h
        · next code body coded read =>
          split at h
          · next fits =>
            cases h
            exact ⟨b0, sender, slot, c1, c0, ref, rest, rfl, by omega, coded, read, by simpa [and_assoc] using fits, rfl, rfl,
              rfl, rfl⟩
          · cases h
        · cases h
    · cases h

/-! ### Host commands -/

theorem ConfigureArgs.ofBytes_bytes (a : ConfigureArgs) (extra : List Byte) : ConfigureArgs.ofBytes (a.bytes ++ extra) = a := rfl

theorem decodeTransaction_configure (args : List Byte) :
    decodeTransaction (0x01 :: args) = if 23 ≤ args.length then .configure (.ofBytes args) else .commandDiscard (0x01 :: args) := rfl

theorem decodeTransaction_append (lane count : Byte) (payload : List Byte) :
    decodeTransaction (0x20 :: lane :: count :: payload) =
      if 1 ≤ count.toNat && count.toNat ≤ 32 then
        if count.toNat ≤ payload.length then .append lane count (payload.take count.toNat)
        else .commandDiscard (0x20 :: lane :: count :: payload)
      else .append lane count [] := rfl

/-- The code bytes of the commands (R175). -/
def hostCodes : List Nat := [0x01, 0x02, 0x03, 0x10, 0x11, 0x20, 0x21, 0x22, 0x23, 0x30, 0x40, 0x41, 0x42, 0x43, 0x7F]

/-- A code that names no command is unknown, whatever follows it. -/
theorem decodeTransaction_of_not_mem {code : Byte} (h : code.toNat ∉ hostCodes) (args : List Byte) :
    decodeTransaction (code :: args) = .unknownCommand code := by
  simp only [hostCodes, List.mem_cons, List.not_mem_nil, or_false, not_or] at h
  unfold decodeTransaction
  dsimp only
  split <;> simp_all

/-- A code that alone is decoded as unknown names no command. -/
theorem not_mem_hostCodes {code : Byte} (h : decodeTransaction [code] = .unknownCommand code) : code.toNat ∉ hostCodes := by
  intro named
  simp only [hostCodes, List.mem_cons, List.not_mem_nil, or_false] at named
  unfold decodeTransaction at h
  rcases named with n | n | n | n | n | n | n | n | n | n | n | n | n | n | n <;> simp [n] at h

end Sys2Proof.Machine

namespace Sys2Proof.Proofs

open Sys2Proof.Machine

/-- Settles O13. -/
theorem validFramePassesChecks : Obligations.ValidFramePassesChecks := by
  intro own bytes ragged f read
  obtain ⟨⟨whole, short, closed⟩, b0, sender, slot, c1, c0, ref, rest, rfl, two, coded, body, ⟨fits, one, most, foreign⟩,
    senderIs, slotIs, cycleIs, refIs⟩ := Frame.read_eq_some read
  obtain ⟨kind, inRange, spelled, length⟩ := readBody_spelled body
  have cut : ((b0 :: sender :: slot :: c1 :: c0 :: ref :: rest).drop 6).take
      ((b0 :: sender :: slot :: c1 :: c0 :: ref :: rest).length - 8) = rest.take (rest.length - 2) := by
    simp
  have first : byteOf (f.body.kindByte * 16 + f.header.code.byte) = b0 := by
    rw [kind, CycleCode.byte_ofNat? coded, Nat.div_add_mod', byteOf_byte]
  refine ⟨⟨whole, closed, ?_, short, ?_⟩, ?_, cut ▸ spelled⟩
  · rw [Frame.bytes_length, length]
    simp only [List.length_cons, List.length_take]
    omega
  · have small : f.header.reference < 256 := refIs ▸ ref.isLt
    simp [Frame.validFor, inRange, fits, one, most, foreign, small]
  · rw [Header.bytes, first, senderIs, slotIs, refIs, cycleIs, wordBytes_wordOf, byteOf_byte, byteOf_byte, byteOf_byte]
    rfl

/-- Settles O14. -/
theorem hostCommandReadsBack : Obligations.HostCommandReadsBack := by
  intro i host wf whole
  cases i with
  | configure a =>
    refine ⟨fun extra => ?_, fun k cut => ?_⟩
    · exact (decodeTransaction_configure _).trans (if_pos (by simp [ConfigureArgs.bytes, LaneArgs.bytes]))
    · cases k with
      | zero => rfl
      | succ k =>
        refine (decodeTransaction_configure _).trans (if_neg ?_)
        simp [Instr.transactionBytes, ConfigureArgs.bytes, LaneArgs.bytes] at cut ⊢
        omega
  | append lane count payload =>
    refine ⟨fun extra => (decodeTransaction_append lane count (payload ++ extra)).trans ?_, fun k cut => ?_⟩
    · simp only [Instr.wf] at wf
      split at wf
      · next counted =>
        have count_eq : payload.length = count.toNat := by simpa using wf
        rw [if_pos counted, if_pos (by simp [count_eq]), ← count_eq, List.take_left']
        rfl
      · next uncounted =>
        rw [if_neg uncounted, List.isEmpty_iff.1 wf]
    · match k with
      | 0 | 1 | 2 => rfl
      | k + 3 =>
        simp only [Instr.wf] at wf
        split at wf
        · next counted =>
          have count_eq : payload.length = count.toNat := by simpa using wf
          refine (decodeTransaction_append lane count (payload.take k)).trans ?_
          rw [if_pos counted, if_neg]
          · rfl
          · simp [Instr.transactionBytes] at cut ⊢
            omega
        · obtain rfl := List.isEmpty_iff.1 wf
          simp [Instr.transactionBytes] at cut
  | unknownCommand code =>
    refine ⟨fun extra => decodeTransaction_of_not_mem (not_mem_hostCodes (by simpa [Instr.wf] using wf)) extra,
      fun k cut => ?_⟩
    obtain rfl : k = 0 := by simpa [Instr.transactionBytes] using cut
    rfl
  | commandDiscard received => exact absurd rfl (whole received)
  | reserve lane n =>
    refine ⟨fun extra => rfl, fun k cut => ?_⟩
    simp only [Instr.transactionBytes, List.length_cons, List.length_nil] at cut
    interval_cases k <;> rfl
  | join | leave | release | commit | flush | resume | fetch | readEvent | readStatus | readSlot | readPeer | reset =>
    refine ⟨fun extra => rfl, fun k cut => ?_⟩
    simp only [Instr.transactionBytes, List.length_cons, List.length_nil] at cut
    interval_cases k <;> rfl
  | _ => cases host

end Sys2Proof.Proofs

/-!
PROOFS. A frame heard, stage by stage (R10 to R14): what the line unit takes, the cycle timer's decision, the peer table
and the units behind it.
-/

namespace Sys2Proof.Machine

/-! ### What the line unit takes (R10) -/

theorem State.active_iff (s : State) : s.active = true ↔ s.held = false ∧ s.station.life.onLink = true := by
  simp [State.active]

theorem State.meetsStart_iff (s : State) (span : FrameSpan) : s.meetsStart span = true ↔ s.EndsAtStart span := by
  cases span <;> simp [State.meetsStart, State.EndsAtStart]

theorem State.serves_iff (s : State) : s.serves = true ↔ s.station.life ∈ [.joined, .leaving] := by
  simp [State.serves]

theorem State.sendsControl_iff (s : State) : s.sendsControl = true ↔ s.station.life ∈ [.joining, .joined, .leaving] := by
  cases h : s.station.life <;> simp [State.sendsControl, State.serves, h]

/-- The open-slot sender sends exactly where its head is due (R85). -/
theorem State.headDue_iff (s : State) :
    s.HeadDue ↔ (s.sendsControl && match s.sender.queue, s.sender.attempt with
      | f :: _, some a => a.backoff == 0 && (f.kind != .claim || s.timer.relearnHold == 0)
      | _, _ => false) = true := by
  unfold State.HeadDue
  rw [Bool.and_eq_true, State.sendsControl_iff]
  refine and_congr_right' ?_
  rcases queue : s.sender.queue with _ | ⟨f, rest⟩ <;> rcases attempt : s.sender.attempt with _ | a <;> simp

/-- An own transmission begins at a slot start exactly where the station as it stands sends there (R15). -/
theorem State.transmitsIn_iff (s : State) (m : Nat) : s.transmitsIn m = true ↔ s.Begins m := by
  unfold State.transmitsIn State.Begins
  split
  · rw [Bool.and_eq_true, State.serves_iff]
  · exact s.headDue_iff.symm

theorem State.nextSlot_eq (s : State) :
    s.nextSlot = if s.timer.position + 1 < s.slotCount then s.timer.position + 1 else 0 := rfl

theorem State.receives_iff' (s : State) (span : FrameSpan) :
    s.receives span = true ↔ (s.active = true ∧ s.line.own = none ∧ s.line.atStart = none)
      ∧ (span = .overSlotEnd → s.timer.lastSlot ≠ none ∧ s.line.sentInSlot = false) := by
  simp only [State.receives, Bool.and_eq_true, Option.isNone_iff_eq_none, Bool.or_eq_true, bne_iff_ne, ne_eq,
    Option.isSome_iff_ne_none, Bool.not_eq_true', and_assoc, ← imp_iff_not_or]

/-- Where the frame ends at a slot start, what may begin there. -/
theorem State.sendsAtEnd_iff (s : State) (span : FrameSpan) :
    s.sendsAtEnd span = true ↔ match span with
      | .inSlot => False
      | .atSlotEnd => s.Begins s.nextSlot
      | .overSlotEnd => (s.timer.phase = .starting ∧ s.Begins s.timer.position) ∨ (s.timer.phase = .ended ∧ s.Begins s.nextSlot) := by
  cases span with
  | inSlot => simp [State.sendsAtEnd, State.meetsStart]
  | atSlotEnd => simp [State.sendsAtEnd, State.meetsStart, State.transmitsIn_iff]
  | overSlotEnd => cases phase : s.timer.phase <;> simp [State.sendsAtEnd, State.meetsStart, phase, State.transmitsIn_iff]

theorem State.hears_iff (s : State) (span : FrameSpan) :
    s.hears span = true ↔ s.receives span = true ∧ ¬ s.sendsAtEnd span = true := by
  simp [State.hears]

theorem State.waits_iff (s : State) (span : FrameSpan) :
    s.waits span = true ↔ s.receives span = true ∧ s.sendsAtEnd span = true := by
  simp [State.waits]

/-! ### A valid frame at the line unit -/

/-- The slot start that a frame of this span finds behind it. -/
theorem State.startPassed_behind {s : State} {span : FrameSpan} (h : s.StartBehind span) :
    (if span == .overSlotEnd then s else s.startPassed) = s := by
  obtain rfl | phase := h
  · rfl
  · rw [State.startPassed_idle (.inr phase), ite_self]

section
variable {s : State} {bytes : List Byte} {ragged : Bool} {span : FrameSpan} {f : Frame}

theorem State.receive_invalid (h : Frame.read s.station.address bytes ragged = none) : s.receive bytes ragged span = s := by
  simp [State.receive, h]

variable (read : Frame.read s.station.address bytes ragged = some f)
include read

/-- A frame that does not straddle a slot end finds its slot start passed (log entry 11). -/
theorem State.receive_startPassed (h : ¬ s.StartBehind span) (same : s.startPassed.station.address = s.station.address)
    (marked : s.startPassed.timer.phase ≠ .starting) :
    s.receive bytes ragged span = s.startPassed.receive bytes ragged span := by
  obtain ⟨inSlot, -⟩ := not_or.1 h
  have none_left : s.startPassed.startPassed = s.startPassed := State.startPassed_idle (.inr marked)
  simp only [State.receive, same, read, beq_iff_eq, inSlot, if_false, none_left]

variable (behind : s.StartBehind span)
include behind

theorem State.receive_waits (h : s.waits span = true) :
    s.receive bytes ragged span = { s with line.atStart := some (.underWay bytes) } := by
  simp only [State.receive, read, State.startPassed_behind behind, h, if_true]

theorem State.receive_dropped (waits : s.waits span = false) (hears : s.hears span = false) :
    s.receive bytes ragged span = s := by
  simp only [State.receive, read, State.startPassed_behind behind, waits, State.takeFrame, hears, Bool.false_eq_true, if_false]

theorem State.receive_heard (hears : s.hears span = true) : s.receive bytes ragged span = s.accept f span := by
  have waits : s.waits span = false := by
    have := (s.hears_iff span).1 hears
    simp [State.waits, this]
  simp only [State.receive, read, State.startPassed_behind behind, waits, State.takeFrame, hears, Bool.false_eq_true,
    if_false, if_true]

end

theorem State.attribution_of_receives {s : State} {span : FrameSpan} (h : s.receives span = true) :
    ∃ position, s.attribution span = some position := by
  have := (s.receives_iff' span).1 h
  cases span with
  | overSlotEnd => exact Option.ne_none_iff_exists'.1 (this.2 rfl).1
  | _ => exact ⟨_, rfl⟩

/-- A matching frame heard goes through the stages, aligned where its header names the slot and cycle of its first bit. -/
theorem State.receive_matching {s : State} {bytes : List Byte} {ragged : Bool} {span : FrameSpan} {f : Frame}
    {position : Nat × CycleNum} (h : s.Hears bytes ragged span f position) :
    s.receive bytes ragged span = s.acceptMatching f span (decide (position = (f.header.slot, f.header.cycle))) := by
  obtain ⟨hears, behind, attribution, read, code⟩ := h
  have aligned : (f.header.slot == position.1 && f.header.cycle == position.2)
      = decide (position = (f.header.slot, f.header.cycle)) := by
    rw [Bool.eq_iff_iff]
    simp only [Bool.and_eq_true, beq_iff_eq, decide_eq_true_eq, Prod.ext_iff, @eq_comm _ position.1, @eq_comm _ position.2]
  rw [State.receive_heard read behind hears, State.accept, attribution]
  dsimp only
  rw [aligned, code, if_pos (by simp)]

theorem Frame.read_sender {own : Nat} {bytes : List Byte} {ragged : Bool} {f : Frame}
    (h : Frame.read own bytes ragged = some f) :
    1 ≤ f.header.sender ∧ f.header.sender ≤ 62 ∧ f.header.sender ≠ own
      ∧ f.body.slotFits f.header.code f.header.slot = true := by
  obtain ⟨-, _, _, _, _, _, _, _, -, -, -, -, ⟨fits, one, most, foreign⟩, -⟩ := Frame.read_eq_some h
  exact ⟨one, most, foreign, fits⟩

/-! ### The report of what was heard (R14) -/

/-- The report reads the line unit and the phase of the slot alone. -/
theorem State.heard_congr {s t : State} (line : t.line = s.line) (phase : t.timer.phase = s.timer.phase)
    (span : FrameSpan) (counts : Bool) (data : List Nat) : t.heard span counts data = s.heard span counts data := by
  simp only [State.heard, State.EndsAtStart, line, phase]

/-- The report changes the line unit alone. -/
theorem State.report_eq (s : State) (span : FrameSpan) (counts : Bool) (x : Option Nat) :
    s.report span counts x = { s with line := s.heard span counts x.toList } := by
  unfold State.report State.heard
  cases counts with
  | true => cases x <;> simp
  | false =>
    by_cases ends : s.EndsAtStart span
    · simp [s.meetsStart_iff span, ends]
    · simp [s.meetsStart_iff span, ends]

/-- A frame whose timing is taken counts as heard. -/
theorem State.heardInSlot_taken {t : Timing} (h : t = .adopted ∨ t = .resynced) (span : FrameSpan) :
    heardInSlot span t = true := by
  obtain rfl | rfl := h <;> simp [heardInSlot]

/-- A frame that brings nothing counts where it lies in the slot. -/
theorem heardInSlot_ignored (span : FrameSpan) : heardInSlot span .ignored = (span == .inSlot) := by
  cases span <;> rfl

/-- A frame that ends with the slot counts where a trim moves the slot end. -/
theorem State.heardInSlot_trims (s : State) (h : Header) (span : FrameSpan) :
    heardInSlot span (if s.offered h ≤ s.timer.reference then .trimmed else .ignored) = s.trimCounts span h := by
  unfold State.trimCounts
  split
  · next lower => cases span <;> simp [lower, heardInSlot]; rfl
  · next higher => cases span <;> simp [higher, heardInSlot] <;> rfl

/-! ### The cycle timer's decision (R22, R28) -/

theorem State.candidate_eq (s : State) (h : Header) : s.candidate h = s.offered h := by
  simp [State.candidate, State.offered]

theorem Due.not_renewed : (fun d : Due => !d.renewed) = Due.outlives := by
  funext d
  cases d <;> rfl

section
variable {s : State} {h : Header}

theorem State.adopt_eq (s : State) (h : Header) : s.adopt h = s.adoptedFrom h := by
  simp only [State.adopt, State.takeTiming, State.adoptedFrom, State.timerAt, State.candidate_eq, Due.not_renewed]

theorem State.decideTiming_adopts (listening : s.station.life = .listening) (fresh : s.timer.acquired = false) (b : Bool) :
    s.decideTiming h b = (s.adoptedFrom h, .adopted) := by
  simp [State.decideTiming, listening, fresh, State.adopt_eq]

variable (known : ¬ (s.station.life = .listening ∧ s.timer.acquired = false))
include known

theorem State.decideTiming_known (b : Bool) :
    s.decideTiming h b =
      if s.offered h < s.timer.reference then
        let s' := { s with timer.reference := s.offered h }
        if b then (s'.postReference (s.offered h) false, .trimmed)
        else ((s'.resync h).postReference (s.offered h) true, .resynced)
      else if s.offered h = s.timer.reference then
        if b then (s, .trimmed)
        else if h.sender = s.timer.reference then ((s.resync h).postReference (s.offered h) true, .resynced)
        else (s, .ignored)
      else (s, .ignored) := by
  have adopts : ¬ (s.station.life == .listening && !s.timer.acquired) = true := by simpa using known
  simp only [State.decideTiming, State.candidate_eq, if_neg adopts, beq_iff_eq]

/-- A trim keeps the reference or takes a lower one. -/
theorem State.decideTiming_trims :
    s.decideTiming h true = (s.trimmedBy h, if s.offered h ≤ s.timer.reference then .trimmed else .ignored) := by
  rw [State.decideTiming_known known, State.trimmedBy]
  rcases Nat.lt_trichotomy (s.offered h) s.timer.reference with lt | eq | gt
  · simp [lt, lt.le, State.postReference]
  · simp [eq]
  · simp [gt.not_gt, gt.ne', gt.not_ge]

theorem State.decideTiming_ignores
    (none_brought : s.timer.reference < s.offered h ∨ s.offered h = s.timer.reference ∧ h.sender ≠ s.timer.reference) :
    s.decideTiming h false = (s, .ignored) := by
  rw [State.decideTiming_known known]
  obtain gt | ⟨eq, other⟩ := none_brought
  · simp [gt.not_gt, gt.ne']
  · simp [eq, other]

theorem State.decideTiming_resyncs
    (brought : s.offered h < s.timer.reference ∨ s.offered h = s.timer.reference ∧ h.sender = s.timer.reference) :
    s.decideTiming h false = (s.resyncedBy h, .resynced) := by
  have resynced : ∀ t : State, t = { s with timer.reference := s.offered h } →
      (t.resync h).postReference (s.offered h) true = s.resyncedBy h := by
    rintro t rfl
    have freed : Entry.freeIf (fun e => e.peer?.isSome) = fun e : Entry => if e.peer? = none then e else .free := by
      funext e
      cases peer : e.peer? <;> simp [Entry.freeIf, peer]
    by_cases listening : s.station.life = .listening
    · simp [State.resync, State.takeTiming, State.postReference, State.resyncedBy, State.timerAt, listening,
        State.freeEntries, State.mapLanes, Due.not_renewed, freed]
      exact fun _ _ _ _ => rfl
    · simp [State.resync, State.takeTiming, State.postReference, State.resyncedBy, State.timerAt, listening,
        State.freeEntries, State.mapLanes, Due.not_renewed, freed]
      rfl
  rw [State.decideTiming_known known]
  obtain lt | ⟨eq, same⟩ := brought
  · simp only [if_pos lt, resynced _ rfl, Bool.false_eq_true, if_false]
  · have keeps : s = { s with timer.reference := s.offered h } := by rw [eq]
    simp only [eq, lt_irrefl, if_false, if_true, Bool.false_eq_true, same]
    rw [← eq, resynced s keeps]

end

/-! ### The stages behind the decision (R14) -/

theorem State.peerHeard_eq {s : State} {x : Nat} (one : 1 ≤ x) : s.peerHeard x = s.withPresence x := by
  simp only [State.peerHeard, State.withPresence, State.setPeer, if_pos one]

/-- A LEAVE heard, and what it teaches (R47, R99). -/
theorem State.peerLeft_learn {s : State} {h : Header} (one : 1 ≤ h.sender) :
    (s.peerLeft h.sender).learn ⟨h, .leave⟩ = s.withLeave h.sender := by
  simp only [State.peerLeft, State.withLeave, State.setPeer, if_pos one, State.learn_leave]

section
variable {s t : State} {f : Frame} {span : FrameSpan} {arrives : Bool} {timing : Timing}
variable (decided : s.decideTiming f.header arrives = (t, timing))
include decided

/-- A frame that arrives misaligned and brings no timing. -/
theorem State.acceptMatching_misaligned (one : 1 ≤ f.header.sender) (misaligned : arrives = false)
    (ignored : timing = .ignored) :
    s.acceptMatching f span arrives =
      State.withPresence { t with line := t.heard span (span == .inSlot) [] } f.header.sender := by
  subst misaligned ignored
  simp only [State.acceptMatching, decided, heardInSlot_ignored, State.report_eq, State.peerHeard_eq one]
  rfl

/-- An aligned frame, or one whose timing is taken, goes through the stages from the state that the decision left. -/
theorem State.acceptMatching_stages (one : 1 ≤ f.header.sender)
    (aligned : (arrives || timing == .adopted || timing == .resynced) = true) :
    t.Stages f span (heardInSlot span timing) (.next (s.acceptMatching f span arrives)) := by
  obtain ⟨h, body⟩ := f
  cases body with
  | data acks packet =>
    simp only [State.acceptMatching, decided, aligned, State.Stages, State.report_eq, State.peerHeard_eq one]
    obtain ⟨r, either⟩ | ⟨r, either⟩ := State.eitherOrder_cases Config.learnFirst
      (fun s => s.learn ⟨h, .data acks packet⟩) (fun s => s.takeDelivery ⟨h, .data acks packet⟩)
      ({ t with line := t.heard span (heardInSlot span timing) [h.sender] }.withPresence h.sender)
    · exact ⟨r, .inl (congrArg _ either)⟩
    · exact ⟨r, .inr (congrArg _ either)⟩
  | claim slots | release slots =>
    simp only [State.acceptMatching, decided, aligned, State.Stages, State.report_eq, State.peerHeard_eq one]
    simp
  | leave =>
    simp only [State.acceptMatching, decided, aligned, State.Stages, State.report_eq]
    simp [State.peerLeft_learn one]

/-- A fill frame without acks meets the schedule unit alone. -/
theorem State.acceptMatching_fill (one : 1 ≤ f.header.sender)
    (aligned : (arrives || timing == .adopted || timing == .resynced) = true) (fill : f.body = .data [] none) :
    s.acceptMatching f span arrives =
      (State.withPresence { t with line := t.heard span (heardInSlot span timing) [f.header.sender] }
        f.header.sender).learnData f.header.sender f.header.slot := by
  obtain ⟨h, body⟩ := f
  subst fill
  simp only [State.acceptMatching, decided, aligned, State.report_eq, State.peerHeard_eq one]
  exact State.eitherOrder_agree (f := fun s => s.learn ⟨h, .data [] none⟩)
    (g := fun s => s.takeDelivery ⟨h, .data [] none⟩) rfl

end

/-! ### What a DATA frame teaches (R43) -/

theorem State.learnData_unused {s : State} {n : Nat} (x : Nat) (h : s.scheduled ≤ n) : s.learnData x n = s := by
  simp [State.learnData, h]

theorem State.learnData_held {s : State} {n : Nat} (x : Nat) (h : (s.entry n).isHeld = true) : s.learnData x n = s := by
  simp [State.learnData, h]

/-- The slot is taken, and the claim engine hears what it was. -/
theorem State.learnData_takes {s : State} {n : Nat} (x : Nat) (used : n < s.scheduled) (h : (s.entry n).isHeld = false) :
    s.learnData x n = (s.setEntry n (.peerHeld x 0)).lossNotice n (s.entry n) := by
  simp [State.learnData, used, h]

/-- No claim is lost in a slot that the station does not claim or yield. -/
theorem State.lossNotice_foreign (s : State) (n : Nat) {e : Entry} (h : e.isOwn = true → e.isHeld = true) :
    s.lossNotice n e = s := by
  cases e <;> simp_all [State.lossNotice, Entry.isOwn, Entry.isHeld]

theorem State.learnData_foreign {s : State} {n : Nat} (x : Nat) (used : n < s.scheduled)
    (h : (s.entry n).isOwn = true → (s.entry n).isHeld = true) :
    s.learnData x n = if (s.entry n).isHeld then s else s.setEntry n (.peerHeld x 0) := by
  by_cases held : (s.entry n).isHeld = true
  · rw [State.learnData_held x held, if_pos held]
  · rw [State.learnData_takes x used (by simpa using held), State.lossNotice_foreign _ _ h, if_neg held]

/-! ### A fill frame in a slot that the station does not claim or yield -/

@[simp] theorem State.withPresence_sched (s : State) (x : Nat) : (s.withPresence x).sched = s.sched := by
  simp only [State.withPresence]; split <;> simp

@[simp] theorem State.withPresence_station (s : State) (x : Nat) : (s.withPresence x).station = s.station := by
  simp only [State.withPresence]; split <;> simp

theorem State.scheduled_congr {s t : State} (h : t.station.code = s.station.code) : t.scheduled = s.scheduled := by
  simp only [State.scheduled, h]

theorem State.entry_congr {s t : State} (h : t.sched = s.sched) (n : Nat) : t.entry n = s.entry n := by
  simp only [State.entry, h]

/-- A DATA frame heard lies in a scheduled slot. -/
theorem State.Hears.slot_lt {s : State} {bytes : List Byte} {ragged : Bool} {span : FrameSpan} {f : Frame}
    {position : Nat × CycleNum} (heard : s.Hears bytes ragged span f position) {acks : List AckEntry}
    {packet : Option Packet} (data : f.body = .data acks packet) : f.header.slot < s.scheduled := by
  obtain ⟨-, -, -, read, code⟩ := heard
  have fits := (Frame.read_sender read).2.2.2
  rw [data] at fits
  simpa [FrameBody.slotFits, State.scheduled, code] using fits

/-- The schedule unit takes the slot of a fill frame for its sender, unless the station holds it. -/
theorem State.learnData_withPresence {s t : State} {x n : Nat} (line : LineUnit) (code : t.station.code = s.station.code)
    (used : n < s.scheduled) (foreign : (t.entry n).isOwn = true → (t.entry n).isHeld = true) :
    (State.withPresence { t with line := line } x).learnData x n =
      if (t.entry n).isHeld then State.withPresence { t with line := line } x
      else (State.withPresence { t with line := line } x).setEntry n (.peerHeld x 0) := by
  have entry : (State.withPresence { t with line := line } x).entry n = t.entry n := State.entry_congr (by simp) n
  have scheduled : (State.withPresence { t with line := line } x).scheduled = s.scheduled :=
    State.scheduled_congr (by simp [code])
  rw [State.learnData_foreign x (scheduled ▸ used) (by rwa [entry]), entry]

/-- A resync frees PEER entries alone. -/
theorem State.resyncedBy_entry (s : State) (h : Header) (n : Nat) :
    (s.resyncedBy h).entry n = if (s.entry n).peer? = none then s.entry n else .free := by
  have sched : (s.resyncedBy h).sched.slots = s.sched.slots.map fun e => if e.peer? = none then e else .free := by
    simp only [State.resyncedBy]; split <;> simp
  by_cases inTable : n < s.sched.slots.length <;> simp [State.entry, sched, inTable]

theorem State.resyncedBy_station (s : State) (h : Header) :
    (s.resyncedBy h).station.code = s.station.code ∧ (s.resyncedBy h).station.life = s.station.life := by
  simp only [State.resyncedBy]; split <;> simp

end Sys2Proof.Machine

namespace Sys2Proof.Proofs

open Sys2Proof.Machine

/-- Settles O34. -/
theorem misalignedGivesPresenceOnly : Obligations.MisalignedGivesPresenceOnly := by
  intro s bytes ragged span f position heard misaligned known nothing
  have one := (Frame.read_sender heard.2.2.2.1).1
  rw [exec_eq, State.after, State.receive_matching heard, decide_eq_false misaligned,
    State.acceptMatching_misaligned (State.decideTiming_ignores known nothing) one rfl rfl]

/-- Settles O38. -/
theorem alignedFrameStages : Obligations.AlignedFrameStages := by
  intro s bytes ragged span f heard known
  have one := (Frame.read_sender heard.2.2.2.1).1
  have stages := State.acceptMatching_stages (f := f) (span := span) (State.decideTiming_trims known) one rfl
  rw [State.heardInSlot_trims] at stages
  rw [exec_eq, State.after, State.receive_matching heard, decide_eq_true rfl]
  exact stages

/-- Settles O35. -/
theorem misalignedReferenceResyncs : Obligations.MisalignedReferenceResyncs := by
  intro s bytes ragged span f position h heard misaligned known brought
  have one := (Frame.read_sender heard.2.2.2.1).1
  have decided := State.decideTiming_resyncs known brought
  rw [exec_eq, State.after, State.receive_matching heard, decide_eq_false misaligned]
  refine ⟨?_, fun fill foreign => ?_⟩
  · have stages := State.acceptMatching_stages (f := f) (span := span) decided one rfl
    rwa [State.heardInSlot_taken (.inr rfl)] at stages
  · intro r v
    have entry : (r.entry h.slot).isHeld = (s.entry h.slot).isHeld ∧ (r.entry h.slot).isOwn = (s.entry h.slot).isOwn := by
      rw [State.resyncedBy_entry]
      cases s.entry h.slot <;> exact ⟨rfl, rfl⟩
    rw [State.acceptMatching_fill decided one rfl fill, State.heardInSlot_taken (.inr rfl),
      State.learnData_withPresence _ (s.resyncedBy_station h).1 (heard.slot_lt fill) (by rwa [entry.1, entry.2]), entry.1]

/-- Settles O36. -/
theorem firstFrameAdopted : Obligations.FirstFrameAdopted := by
  intro s bytes ragged span f position h heard listening fresh
  have one := (Frame.read_sender heard.2.2.2.1).1
  have decided := State.decideTiming_adopts (h := f.header) listening fresh
  rw [exec_eq, State.after, State.receive_matching heard]
  refine ⟨?_, fun fill foreign => ?_⟩
  · have stages := State.acceptMatching_stages (f := f) (span := span)
      (decided (decide (position = (f.header.slot, f.header.cycle)))) one (by simp)
    rwa [State.heardInSlot_taken (.inl rfl)] at stages
  · intro r
    have notHeld : (r.entry h.slot).isHeld = false := by
      change (s.entry h.slot).isHeld = false
      cases e : s.entry h.slot <;> simp_all [Entry.isOwn, Entry.isHeld]
    have notOwn : (r.entry h.slot).isOwn = true → (r.entry h.slot).isHeld = true := fun own =>
      absurd own (Bool.eq_false_iff.1 foreign)
    rw [State.acceptMatching_fill (decided _) one (by simp) fill, State.heardInSlot_taken (.inl rfl),
      State.learnData_withPresence (s := s) (t := r) _ rfl (heard.slot_lt fill) notOwn, if_neg (Bool.eq_false_iff.1 notHeld)]

/-- Settles O37. -/
theorem alignedDataFrameLearned : Obligations.AlignedDataFrameLearned := by
  refine ⟨fun s h acks packet => rfl, fun s x n => ⟨fun unused => ?_, fun used => ?_⟩, fun s bytes ragged span h heard known foreign => ?_⟩
  · exact State.learnData_unused x unused
  · cases e : s.entry n with
    | ownHeld b h r => exact State.learnData_held x (by rw [e]; rfl)
    | ownClaiming | ownYielding => rw [State.learnData_takes x used (by rw [e]; rfl), e]
    | _ =>
      rw [State.learnData_takes x used (by rw [e]; rfl), e,
        State.lossNotice_foreign _ _ (by simp [Entry.isOwn])]
  · intro x r r' u v
    have one := (Frame.read_sender heard.2.2.2.1).1
    have decided := State.decideTiming_trims (h := h) known
    have trimmed : s.trimmedBy h = r' := by
      simp only [State.trimmedBy, r', r]
      by_cases lower : s.offered h < s.timer.reference <;> by_cases listening : s.station.life = .listening <;>
        simp [lower, listening]
    have line : r'.line = s.line := by simp only [r', r]; split_ifs <;> simp
    have timer : r'.timer.phase = s.timer.phase := by simp only [r', r]; split_ifs <;> simp
    have peers : r'.peers = s.peers := by simp only [r', r]; split_ifs <;> simp
    have sched : r'.sched = s.sched := by simp only [r', r]; split_ifs <;> simp
    have station : r'.station = s.station := by simp only [r', r]; split_ifs <;> simp
    have entry : r'.entry h.slot = s.entry h.slot := State.entry_congr sched _
    have present : State.withPresence { r' with line := r'.heard span (s.trimCounts span h) [x] } x = v := by
      rw [State.heard_congr line timer]
      simp only [State.withPresence, State.peer, peers]
      rfl
    rw [exec_eq, State.after, State.receive_matching heard, decide_eq_true rfl,
      State.acceptMatching_fill decided one rfl rfl, State.heardInSlot_trims, trimmed,
      State.learnData_withPresence (s := s) _ (by rw [station]) (heard.slot_lt rfl) (by rwa [entry]), entry, present]

end Sys2Proof.Proofs

/-!
PROOFS. The station's name and the timer's marks: what no frame and no count changes, but a timing taken and the move to
OFFLINE. Slot starts that pass.
-/

namespace Sys2Proof.Machine

/-- The station's name, the phase of the slot in progress and the counts due. -/
def State.clock (s : State) : Nat × Option CycleCode × SlotPhase × List Due :=
  (s.station.address, s.station.code, s.timer.phase, s.timer.due)

theorem State.clock_foldl {α : Type} {f : State → α → State} (h : ∀ s a, (f s a).clock = s.clock) (l : List α)
    (s : State) : (l.foldl f s).clock = s.clock := by
  induction l generalizing s with
  | nil => rfl
  | cons a l ih => rw [List.foldl_cons, ih, h]

theorem State.clock_eq {s t : State} (h : t.clock = s.clock) :
    t.station.address = s.station.address ∧ t.station.code = s.station.code ∧ t.timer.phase = s.timer.phase
      ∧ t.timer.due = s.timer.due := by
  simpa [State.clock] using h

/-- The station's name and the marks as they were, or the move to OFFLINE, which stops the timer (R37). -/
def State.Onward (s t : State) : Prop :=
  t.clock = s.clock
  ∨ (t.station.address = s.station.address ∧ t.station.code = s.station.code
    ∧ t.timer = stoppedTimer s.station.address ∧ t.station.life = .offline)

theorem State.Onward.name {s t : State} (h : s.Onward t) :
    t.station.address = s.station.address ∧ t.station.code = s.station.code := by
  obtain same | ⟨address, code, -⟩ := h
  · have := State.clock_eq same
    exact ⟨this.1, this.2.1⟩
  · exact ⟨address, code⟩

/-- A slot start that is marked stays so. -/
theorem State.Onward.running {s t : State} (h : s.Onward t) (running : s.timer.phase = .running) :
    t.timer.phase = .running := by
  obtain same | ⟨-, -, timer, -⟩ := h
  · rwa [(State.clock_eq same).2.2.1]
  · rw [timer]; rfl

theorem State.Onward.after {s t u : State} (first : t.clock = s.clock) (h : t.Onward u) : s.Onward u := by
  obtain same | ⟨address, code, timer, life⟩ := h
  · exact .inl (same.trans first)
  · have name := State.clock_eq first
    exact .inr ⟨address.trans name.1, code.trans name.2.1, name.1 ▸ timer, life⟩

theorem State.Onward.then {s t u : State} (h : s.Onward t) (station : u.station = t.station) (timer : u.timer = t.timer) :
    s.Onward u := by
  obtain same | ⟨address, code, stopped, life⟩ := h
  · exact .inl (by rw [← same, State.clock, State.clock, station, timer])
  · exact .inr ⟨by rw [station, address], by rw [station, code], by rw [timer, stopped], by rw [station, life]⟩

/-! ### Shared operations -/

@[simp] theorem State.post_clock (s : State) (e : Event) : (s.post e).clock = s.clock := by simp [State.clock]
@[simp] theorem State.postAll_clock (s : State) (es : List Event) : (s.postAll es).clock = s.clock := by simp [State.clock]
@[simp] theorem State.setEntry_clock (s : State) (n : Nat) (e : Entry) : (s.setEntry n e).clock = s.clock := rfl
@[simp] theorem State.stepEntry_clock (s : State) (n : Nat) (f : Entry → Entry) : (s.stepEntry n f).clock = s.clock := rfl
@[simp] theorem State.freeEntries_clock (s : State) (p : Entry → Bool) : (s.freeEntries p).clock = s.clock := rfl
@[simp] theorem State.setLane_clock (s : State) (l : Nat) (t : TxLane) : (s.setLane l t).clock = s.clock := rfl
@[simp] theorem State.setPeer_clock (s : State) (a : Nat) (r : Peer) : (s.setPeer a r).clock = s.clock := by simp [State.clock]
@[simp] theorem State.dropClaim_clock (s : State) : s.dropClaim.clock = s.clock := by simp [State.clock]
@[simp] theorem State.editClaim_clock (s : State) (n : Nat) : (s.editClaim n).clock = s.clock := by simp [State.clock]
@[simp] theorem State.endClaim_clock (s : State) : s.endClaim.clock = s.clock := by simp [State.clock]
@[simp] theorem State.haltLane_clock (s : State) (l : Nat) (r : HaltReason) : (s.haltLane l r).clock = s.clock := by
  simp [State.clock]

@[simp] theorem State.homePick_clock (s : State) : s.homePick.clock = s.clock := by
  obtain ⟨n, -, -, h⟩ | ⟨-, ⟨-, h⟩ | ⟨-, h⟩⟩ := s.homePick_cases <;> rw [h]
  · rfl
  · rw [State.post_clock]; rfl

@[simp] theorem State.claimLost_clock (s : State) : s.claimLost.clock = s.clock := by
  rw [State.claimLost_eq]
  split
  · rfl
  · rw [State.post_clock]; rfl
  · rw [State.homePick_clock]; rfl

@[simp] theorem State.winClaim_clock (s : State) : s.winClaim.clock = s.clock := by
  obtain ⟨kind, t, -, rfl, ⟨lane, -, h⟩ | ⟨-, h⟩⟩ | ⟨-, h⟩ := s.winClaim_cases <;> rw [h]
  · rw [State.post_clock]; rfl
  · rw [State.post_clock]; rfl

theorem State.offLink_onward (s : State) (r : LeftReason) : s.Onward (s.offLink r) := .inr ⟨rfl, rfl, rfl, rfl⟩

theorem State.homeLost_onward (s : State) : s.Onward s.homeLost := by
  obtain ⟨n, -, h⟩ | ⟨-, ⟨-, h⟩ | ⟨-, t, rfl, h⟩ | ⟨-, h⟩⟩ := s.homeLost_cases <;> rw [h]
  · exact .inl rfl
  · exact s.offLink_onward _
  · left
    rw [State.homePick_clock, State.endClaim_clock]
    split <;> simp
  · exact .inl rfl

theorem State.lossNotice_onward (s : State) (n : Nat) (e : Entry) : s.Onward (s.lossNotice n e) := by
  obtain ⟨b, h, k, -, t, rfl | rfl, eq⟩ | ⟨b, h, r, w, -, eq⟩ | ⟨-, eq⟩ := s.lossNotice_cases n e <;> rw [eq]
  · left; split <;> simp
  · left; split <;> simp
  · split
    · exact (State.homeLost_onward _).after (s.post_clock _)
    · exact .inl (s.post_clock _)
  · exact .inl rfl

/-- Only a yielding slot can be the last one held. -/
theorem State.lossNotice_clock (s : State) (n : Nat) {b : Binding} {h : Bool} {k : Option Nat} :
    (s.lossNotice n (.ownClaiming b h k)).clock = s.clock := by
  obtain ⟨_, _, _, -, t, rfl | rfl, eq⟩ | ⟨_, _, _, _, no, -⟩ | ⟨no, -⟩ := s.lossNotice_cases n (.ownClaiming b h k)
  · rw [eq]; split <;> simp
  · rw [eq]; split <;> simp
  · cases no
  · exact absurd (no rfl) Bool.false_ne_true

@[simp] theorem State.fallBack_clock (s : State) : s.fallBack.clock = s.clock := by
  rw [State.fallBack_eq]
  split
  · rfl
  · rw [State.post_clock]; rfl

@[simp] theorem State.haltLanesTo_clock (s : State) (p : Nat) : (s.haltLanesTo p).clock = s.clock := by
  rw [State.haltLanesTo_frame]; rfl

@[simp] theorem State.absenceNotice_clock (s : State) (p : Nat) : (s.absenceNotice p).clock = s.clock := by
  simp only [State.absenceNotice]
  split
  · obtain ⟨r, h⟩ | ⟨r, h⟩ := State.eitherOrder_cases Config.fallbackFirst State.fallBack (fun s => s.haltLanesTo p)
      { s.freeEntries (fun e => e.peer? == some p) with
        delivery.contexts := [0, 1, 2, 3].foldl (fun cs c => cs.set (contextIndex p c) none) s.delivery.contexts
        delivery.owed := s.delivery.owed.filter (·.station != p) }
    · exact (congrArg State.clock h).trans ((State.haltLanesTo_clock _ _).trans (State.fallBack_clock _))
    · exact (congrArg State.clock h).trans ((State.fallBack_clock _).trans (State.haltLanesTo_clock _ _))
  · rw [State.haltLanesTo_clock]; rfl

/-! ### Frames heard -/

@[simp] theorem State.peerHeard_clock (s : State) (x : Nat) : (s.peerHeard x).clock = s.clock := by
  simp only [State.peerHeard]; split <;> simp
@[simp] theorem State.peerLeft_clock (s : State) (x : Nat) : (s.peerLeft x).clock = s.clock := by
  simp only [State.peerLeft]; split <;> simp
@[simp] theorem State.peerMismatched_clock (s : State) (x : Nat) : (s.peerMismatched x).clock = s.clock := by
  simp only [State.peerMismatched]; split <;> simp
@[simp] theorem State.report_clock (s : State) (span : FrameSpan) (heard : Bool) (x : Option Nat) :
    (s.report span heard x).clock = s.clock := by simp [State.clock]

theorem State.learnData_onward (s : State) (x n : Nat) : s.Onward (s.learnData x n) := by
  unfold State.learnData
  split
  · exact (State.lossNotice_onward _ _ _).after (s.setEntry_clock _ _)
  · exact .inl rfl

@[simp] theorem State.learnClaim_clock (s : State) (x n : Nat) : (s.learnClaim x n).clock = s.clock := by
  simp only [State.learnClaim]
  split
  · cases s.entry n with
    | ownClaiming =>
      dsimp only
      split
      · rw [State.lossNotice_clock]; rfl
      · rfl
    | peerPending y k => dsimp only; split <;> rfl
    | _ => rfl
  · rfl

@[simp] theorem State.learnRelease_clock (s : State) (x n : Nat) : (s.learnRelease x n).clock = s.clock := by
  unfold State.learnRelease; split <;> rfl

theorem State.learn_onward (s : State) (f : Frame) : s.Onward (s.learn f) := by
  simp only [State.learn]
  split
  · exact s.learnData_onward _ _
  · exact .inl (State.clock_foldl (fun s n => s.learnClaim_clock _ n) _ _)
  · exact .inl (State.clock_foldl (fun s n => s.learnRelease_clock _ n) _ _)
  · exact .inl rfl

/-- Station and timer, of which the delivery unit changes neither. -/
def State.stationTimer (s : State) : StationControl × CycleTimer := (s.station, s.timer)

@[simp] theorem State.applyAck_stationTimer (s : State) (p : Nat) (a : AckEntry) :
    (s.applyAck p a).stationTimer = s.stationTimer := by
  have free : ∀ (t : State) l e, (t.ackFree l e).stationTimer = t.stationTimer := fun t l e => by
    simp only [State.ackFree]; split <;> simp [State.stationTimer]
  have busy : ∀ (t : State) l e, (t.ackBusy l e).stationTimer = t.stationTimer := fun t l e => by
    simp only [State.ackBusy]; split_ifs <;> simp [State.stationTimer]
  unfold State.applyAck
  split
  · split
    · dsimp only; split <;> simp [free, busy]
    · rfl
  · rfl

@[simp] theorem State.judge_stationTimer (s : State) (p : Nat) (k : Packet) : (s.judge p k).stationTimer = s.stationTimer := by
  have inOrder : ∀ (t : State) e, (t.judgeInOrder p k e).stationTimer = t.stationTimer := fun t e => by
    unfold State.judgeInOrder; split_ifs <;> rfl
  unfold State.judge
  split_ifs
  · unfold State.judgeUnicast
    split
    · split
      · rfl
      · exact inOrder _ _
    · exact inOrder _ _
    · exact inOrder _ _
    · rfl
  · unfold State.judgeBroadcast; split <;> simp [State.stationTimer]
  · rfl
  · rfl

@[simp] theorem State.takeDelivery_stationTimer (s : State) (f : Frame) : (s.takeDelivery f).stationTimer = s.stationTimer := by
  have acks : ∀ (l : List AckEntry) (t : State),
      (l.foldl (fun s a => s.applyAck f.header.sender a) t).stationTimer = t.stationTimer := fun l => by
    induction l with
    | nil => exact fun _ => rfl
    | cons a l ih => exact fun t => (ih _).trans (t.applyAck_stationTimer _ a)
  unfold State.takeDelivery
  split
  · dsimp only; split <;> simp [acks]
  · rfl

theorem State.takeDelivery_station (s : State) (f : Frame) : (s.takeDelivery f).station = s.station :=
  congrArg Prod.fst (s.takeDelivery_stationTimer f)

theorem State.takeDelivery_timer (s : State) (f : Frame) : (s.takeDelivery f).timer = s.timer :=
  congrArg Prod.snd (s.takeDelivery_stationTimer f)

/-- The decision leaves the name, and a slot start marked stays so. -/
theorem State.decideTiming_marks (s : State) (h : Header) (arrives : Bool) :
    (s.decideTiming h arrives).1.station.address = s.station.address
      ∧ (s.timer.phase = .running → (s.decideTiming h arrives).1.timer.phase = .running) := by
  have posted : ∀ (t : State) r b, (t.postReference r b).station = t.station ∧ (t.postReference r b).timer = t.timer :=
    fun t r b => by unfold State.postReference; split <;> simp
  have resynced : ∀ t : State, (t.resync h).station.address = t.station.address ∧ (t.resync h).timer.phase = .running :=
    fun t => by simp only [State.resync]; split <;> exact ⟨rfl, rfl⟩
  simp only [State.decideTiming]
  split_ifs <;> simp [posted, resynced, State.adopt, State.takeTiming]

theorem State.takeDelivery_clock (s : State) (f : Frame) : (s.takeDelivery f).clock = s.clock := by
  simp only [State.clock, State.takeDelivery_station, State.takeDelivery_timer]

/-- What a matching frame brings behind the timer's decision: presence alone, or the stages of its kind (R14). -/
theorem State.acceptMatching_cases (s : State) (f : Frame) (span : FrameSpan) (arrives : Bool) :
    ∃ timing data v, timing = (s.decideTiming f.header arrives).2
      ∧ v = (s.decideTiming f.header arrives).1.report span (heardInSlot span timing) data ∧
      (s.acceptMatching f span arrives = v.peerHeard f.header.sender
      ∨ (arrives = true ∨ timing = .adopted ∨ timing = .resynced) ∧
        (f.body = .leave ∧ s.acceptMatching f span arrives = (v.peerLeft f.header.sender).learn f
        ∨ f.body ≠ .leave ∧ s.acceptMatching f span arrives = (v.peerHeard f.header.sender).learn f
        ∨ (∃ acks packet, f.body = .data acks packet) ∧ ∃ n,
          s.acceptMatching f span arrives
            = { ((v.peerHeard f.header.sender).learn f).takeDelivery f with freeReads := n }
          ∨ s.acceptMatching f span arrives
            = { ((v.peerHeard f.header.sender).takeDelivery f).learn f with freeReads := n })) := by
  obtain ⟨h, body⟩ := f
  by_cases aligned : (arrives || (s.decideTiming h arrives).2 == .adopted || (s.decideTiming h arrives).2 == .resynced) = true
  · have brought : arrives = true ∨ (s.decideTiming h arrives).2 = .adopted ∨ (s.decideTiming h arrives).2 = .resynced := by
      simpa [or_assoc] using aligned
    cases body with
    | data acks packet =>
      simp only [State.acceptMatching, aligned]
      obtain ⟨n, h⟩ | ⟨n, h⟩ := State.eitherOrder_cases Config.learnFirst (fun s => s.learn ⟨h, .data acks packet⟩)
        (fun s => s.takeDelivery ⟨h, .data acks packet⟩)
        ((State.report (s.decideTiming h arrives).1 span (heardInSlot span (s.decideTiming h arrives).2)
          (some h.sender)).peerHeard h.sender)
      · exact ⟨_, _, _, rfl, rfl, .inr ⟨brought, .inr (.inr ⟨⟨acks, packet, rfl⟩, n, .inl h⟩)⟩⟩
      · exact ⟨_, _, _, rfl, rfl, .inr ⟨brought, .inr (.inr ⟨⟨acks, packet, rfl⟩, n, .inr h⟩)⟩⟩
    | claim slots | release slots =>
      simp only [State.acceptMatching, aligned]
      exact ⟨_, _, _, rfl, rfl, .inr ⟨brought, .inr (.inl ⟨nofun, rfl⟩)⟩⟩
    | leave =>
      simp only [State.acceptMatching, aligned]
      exact ⟨_, _, _, rfl, rfl, .inr ⟨brought, .inl ⟨trivial, rfl⟩⟩⟩
  · simp only [State.acceptMatching, if_neg aligned]
    exact ⟨_, _, _, rfl, rfl, .inl rfl⟩

/-- A frame taken leaves the name, and a slot start marked stays so. -/
theorem State.accept_marks (s : State) (f : Frame) (span : FrameSpan) :
    (s.accept f span).station.address = s.station.address
      ∧ (s.timer.phase = .running → (s.accept f span).timer.phase = .running) := by
  unfold State.accept
  split
  · exact ⟨rfl, id⟩
  · split
    · generalize (f.header.slot == _ && f.header.cycle == _) = arrives
      have decided := s.decideTiming_marks f.header arrives
      have onward : (s.decideTiming f.header arrives).1.Onward (s.acceptMatching f span arrives) := by
        obtain ⟨timing, data, v, -, rfl, h | ⟨-, ⟨-, h⟩ | ⟨-, h⟩ | ⟨-, n, h | h⟩⟩⟩ := s.acceptMatching_cases f span arrives <;>
          rw [h]
        · exact .inl (by simp)
        · exact (State.learn_onward _ f).after (by simp)
        · exact (State.learn_onward _ f).after (by simp)
        · exact ((State.learn_onward _ f).after (by simp)).then (State.takeDelivery_station _ f) (State.takeDelivery_timer _ f)
        · exact ((State.learn_onward _ f).after (by simp [State.takeDelivery_clock])).then rfl rfl
      exact ⟨onward.name.1.trans decided.1, fun m => onward.running (decided.2 m)⟩
    · have same := State.clock_eq (s := s) (t := (s.report span (span == .inSlot) none).peerMismatched f.header.sender)
        (by simp)
      exact ⟨same.1, fun m => by rwa [same.2.2.1]⟩

/-! ### A slot start that passes -/

theorem State.takeUnderWay_marks (s : State) (bytes : List Byte) :
    (s.takeUnderWay bytes).station.address = s.station.address
      ∧ (s.timer.phase = .running → (s.takeUnderWay bytes).timer.phase = .running) := by
  unfold State.takeUnderWay State.takeFrame
  split
  · split
    · exact s.accept_marks _ _
    · exact ⟨rfl, id⟩
  · exact ⟨rfl, id⟩

theorem State.passStart_marks (s : State) :
    s.passStart.station.address = s.station.address ∧ s.passStart.timer.phase = .running := by
  unfold State.passStart
  split
  · exact ⟨(State.takeUnderWay_marks _ _).1, (State.takeUnderWay_marks _ _).2 rfl⟩
  · exact ⟨rfl, rfl⟩
  · exact ⟨rfl, rfl⟩

/-- Behind a start marked, a frame that ended there is taken as one that straddled the slot end before. -/
theorem State.takeUnderWay_eq {s : State} (marked : s.timer.phase = .running) (bytes : List Byte) :
    s.takeUnderWay bytes = s.receive bytes false .overSlotEnd := by
  unfold State.takeUnderWay
  cases read : Frame.read s.station.address bytes false with
  | none => rw [State.receive_invalid read]
  | some f =>
    have waits : s.waits .overSlotEnd = false := by simp [State.waits, State.sendsAtEnd, State.meetsStart, marked]
    have straddles : (FrameSpan.overSlotEnd == FrameSpan.overSlotEnd) = true := rfl
    simp only [State.receive, read, straddles, if_true, waits, Bool.false_eq_true, if_false]

/-- A slot start that passes leaves what a silent start leaves. -/
theorem State.silentStart_passStart (s : State) : s.silentStart s.started = .next s.passStart := by
  unfold State.silentStart State.passStart
  cases s.line.atStart with
  | none => rfl
  | some frame =>
    cases frame with
    | underWay bytes =>
      change exec (.receiveFrame bytes false .overSlotEnd) s.started = .next (s.markStart.takeUnderWay bytes)
      rw [exec_eq, State.after, ← State.takeUnderWay_eq rfl]
      rfl
    | taken => rfl

theorem State.startPassed_starting {s : State} (active : s.active = true) (starting : s.timer.phase = .starting) :
    s.startPassed = s.passStart := by
  simp [State.startPassed, active, starting]

end Sys2Proof.Machine

namespace Sys2Proof.Proofs

open Sys2Proof.Machine

/-- Settles O33. -/
theorem frameNotHandedOn : Obligations.FrameNotHandedOn := by
  intro s bytes ragged span receives straddles next
  have hears : ∀ sp, s.hears sp = true ↔ (receives ∧ (sp = .overSlotEnd → straddles)) ∧ ¬ s.sendsAtEnd sp = true := fun sp => by
    rw [State.hears_iff, State.receives_iff']
  refine ⟨?_, ?_, ?_, fun idle => ?_, fun f active read => ⟨fun ahead => ?_, fun behind notHeard received => ?_,
    fun behind notReceived => ?_, fun behind heard other => ?_⟩⟩
  · rw [hears, State.sendsAtEnd_iff]; simp
  · rw [hears, State.sendsAtEnd_iff]; simp [State.nextSlot_eq, next]
  · rw [hears, State.sendsAtEnd_iff]
    simp only [State.nextSlot_eq, next, forall_const, not_or, not_and, and_assoc]
  · rw [exec_eq]
    obtain invalid | inactive := idle
    · exact congrArg _ (State.receive_invalid invalid)
    · exact congrArg _ (State.receive_idle inactive _ _ _)
  · have starting : s.timer.phase = .starting := by simpa using (not_or.1 ahead).2
    have passed := State.startPassed_starting active starting
    have marks := s.passStart_marks
    refine ⟨s.passStart, s.silentStart_passStart, ?_⟩
    rw [exec_eq, exec_eq, State.after, State.after,
      State.receive_startPassed read ahead (by rw [passed, marks.1]) (by rw [passed, marks.2]; nofun), passed]
  · have waits : s.waits span = true := by
      have received' := (s.receives_iff' span).2 received
      simpa [State.waits, State.hears, received'] using notHeard
    rw [exec_eq, State.after, State.receive_waits read behind waits]
  · have notReceived' : s.receives span = false := by
      rw [Bool.eq_false_iff, ne_eq, State.receives_iff']
      exact notReceived
    rw [exec_eq, State.after, State.receive_dropped read behind (by simp [State.waits, notReceived'])
      (by simp [State.hears, notReceived'])]
  · intro x r u
    have one := (Frame.read_sender read).1
    obtain ⟨position, attributed⟩ := State.attribution_of_receives ((s.hears_iff span).1 heard).1
    rw [exec_eq, State.after, State.receive_heard read behind heard, State.accept, attributed]
    dsimp only
    rw [if_neg fun same => other (eq_of_beq same).symm, State.report_eq]
    simp only [State.peerMismatched, State.setPeer, if_pos one]
    rfl

/-- Settles O39. -/
theorem leaveFrameTaken : Obligations.LeaveFrameTaken := by
  intro s bytes ragged span h heard known x r u lower left
  have stages : exec (.receiveFrame bytes ragged span) s = .next (State.withLeave { s.trimmedBy h with
      line := (s.trimmedBy h).heard span (s.trimCounts span h) [] } x) :=
    alignedFrameStages s bytes ragged span ⟨h, .leave⟩ heard known
  rw [stages]
  unfold State.trimmedBy
  by_cases keeps : s.timer.reference ≤ s.offered h
  · rw [if_pos keeps, if_neg (Nat.not_lt.2 keeps)]
    rfl
  · rw [if_neg keeps, if_pos (Nat.not_le.1 keeps)]
    split
    · rfl
    · generalize event : Event.referenceChanged (s.offered h) false = e
      have line := State.heard_congr (s := s) (t := State.post { s with timer.reference := s.offered h } e)
        (State.post_line _ _) (by simp) span (s.trimCounts span h) []
      have posted : { State.post { s with timer.reference := s.offered h } e with
          line := s.heard span (s.trimCounts span h) [] } = lower.post e := by
        rw [State.post_with_port (s := { s with timer.reference := s.offered h }) (t := lower) e rfl rfl,
          State.post_with_port (s := { s with timer.reference := s.offered h }) e rfl rfl]
      have peers : (lower.post e).peers = s.peers := State.post_peers _ _
      dsimp only
      rw [line, posted]
      simp only [State.withLeave, State.peer, peers, left, r]

end Sys2Proof.Proofs

/-!
PROOFS. The last step of each count that is due, one row at a time (R25, R29 to R32, R36, R49 to R51, R67, R75, R111,
R141, R142).
-/

namespace Sys2Proof.Machine

/-! ### A row on a count that is due -/

theorem State.ifActive_active {s : State} (active : s.active = true) (f : State → State) : s.ifActive f = f s := by
  simp [State.ifActive, active]

theorem State.takeDue_mem {s : State} {d : Due} (due : d ∈ s.timer.due) :
    s.takeDue d = State.dueStep { s with timer.due := s.timer.due.erase d } d := by
  simp [State.takeDue, due]

theorem State.takeDue_absent {s : State} {d : Due} (gone : d ∉ s.timer.due) : s.takeDue d = s := by
  simp [State.takeDue, gone]

/-- The counts that have a row of their own, with the row. -/
def Due.row : Due → Option Instr
  | .lapse n => some (.lapse n)
  | .yieldEnd n => some (.yieldWindowExpire n)
  | .pendingExpiry n => some (.pendingExpiry n)
  | .barExpire n => some (.barExpire n)
  | .settle => some .settleExpire
  | .listenEnd => some .listenEnd
  | .waitingPick => some .waitingHomePick
  | .leaveTimeout => some .leaveTimeout
  | .relearnHold => some .relearnHoldExpire
  | .busyHold l => some (.busyHoldExpire l)
  | .absence _ | .deadline _ _ => none

/-- The row of a count takes it. -/
theorem exec_row {s : State} {d : Due} {c : Instr} (active : s.active = true) (row : d.row = some c) :
    exec c s = .next (s.takeDue d) := by
  cases d with
  | absence | deadline => cases row
  | _ =>
    obtain rfl := Option.some.inj row
    rw [exec_eq]
    exact congrArg _ (State.ifActive_active active _)

/-- The row of a count that is due takes its last step. -/
theorem exec_row_due {s : State} {d : Due} {c : Instr} (active : s.active = true) (row : d.row = some c)
    (due : d ∈ s.timer.due) : exec c s = .next (State.dueStep { s with timer.due := s.timer.due.erase d } d) := by
  rw [exec_row active row, State.takeDue_mem due]

/-! ### Home picks and the leave count -/

theorem State.lowestFree_eq_some (s : State) (n : Nat) :
    s.lowestFree = some n ↔ n < s.sched.slots.length ∧ s.entry n = .free ∧ ∀ k < n, s.entry k ≠ .free := by
  unfold State.lowestFree State.entry
  rw [List.findIdx?_eq_some_iff_getElem]
  constructor
  · rintro ⟨inTable, free, before⟩
    refine ⟨inTable, by simpa [inTable] using free, fun k hk => ?_⟩
    simpa [Nat.lt_trans hk inTable] using before k hk
  · rintro ⟨inTable, free, before⟩
    refine ⟨inTable, by simpa [inTable] using free, fun k hk => ?_⟩
    simpa [Nat.lt_trans hk inTable] using before k hk

theorem State.lowestFree_eq_none (s : State) : s.lowestFree = none ↔ ∀ e ∈ s.sched.slots, e ≠ .free := by
  simp [State.lowestFree]

/-- A pick with a FREE slot and room in the queue claims the slot. -/
theorem State.homePick_claims {s : State} {n : Nat} (room : s.sender.queue.length < 4) (lowest : s.lowestFree = some n) :
    s.homePick = { s with
      station.life := .joining
      sched := ⟨s.sched.slots.set n (.ownClaiming .shared true none), some ⟨.home, .unsent⟩⟩
      sender := s.withFrame ⟨.claim, [n]⟩ } := by
  obtain ⟨m, -, found, pick⟩ | ⟨full | none, -⟩ := s.homePick_cases
  · rw [lowest] at found
    obtain rfl := Option.some.inj found
    exact pick
  · omega
  · rw [lowest] at none; cases none

/-- A pick that claims nothing leaves a WAITING station as it is. -/
theorem State.homePick_stays {s : State} (nothing : 4 ≤ s.sender.queue.length ∨ s.lowestFree = none)
    (waiting : s.station.life = .waiting) : s.homePick = s := by
  obtain ⟨m, room, found, -⟩ | ⟨-, ⟨-, pick⟩ | ⟨other, -⟩⟩ := s.homePick_cases
  · obtain full | none := nothing
    · omega
    · rw [found] at none; cases none
  · exact pick
  · exact absurd waiting other

/-- A pick that claims nothing makes another station WAITING. -/
theorem State.homePick_waits {s : State} (nothing : 4 ≤ s.sender.queue.length ∨ s.lowestFree = none)
    (other : s.station.life ≠ .waiting) :
    s.homePick = State.post { s with station.life := .waiting, sender := ⟨[], none, s.sender.generator⟩ } .waiting := by
  obtain ⟨m, room, found, -⟩ | ⟨-, ⟨waiting, -⟩ | ⟨-, pick⟩⟩ := s.homePick_cases
  · obtain full | none := nothing
    · omega
    · rw [found] at none; cases none
  · exact absurd waiting other
  · exact pick

/-- The move to OFFLINE strikes off what is due. -/
theorem State.offLink_due (s : State) (due : List Due) (r : LeftReason) :
    State.offLink { s with timer.due := due } r = s.offLink r := by
  have posted := State.post_with_port (s := s) (t := { s with timer.due := due }) (.left r) rfl rfl
  have posted' := State.post_with_port (s := s) (t := s) (.left r) rfl rfl
  unfold State.offLink
  rw [posted, posted']
  rfl

/-! ### The win -/

/-- A READY lane is enabled and not halted. -/
theorem TxLane.ready_iff (t : TxLane) : t.ready = true ↔ t.config ≠ none ∧ t.halt = none := by
  simp [TxLane.ready, Option.isSome_iff_ne_none]

theorem TxLane.armAtJoin_eq (t : TxLane) :
    t.armAtJoin = if t.config ≠ none ∧ t.halt = none then
      { t with armed := true, positions := t.positions.map Position.unsend } else t := by
  unfold TxLane.armAtJoin
  by_cases ready : t.ready = true
  · rw [if_pos ready, if_pos (t.ready_iff.1 ready)]
  · rw [if_neg ready, if_neg (ready ∘ t.ready_iff.2)]

/-- A claimed entry is held in round 0; every other stays. -/
def Entry.won (e : Entry) : Entry :=
  match e with
  | .ownClaiming b h _ => .ownHeld b h 0
  | e => e

theorem Entry.won_isHome (e : Entry) : e.won.isHome = e.isHome := by cases e <;> rfl

/-- The settle that runs out on an announced claim wins it. -/
theorem State.settleStep_wins {s : State} {kind : ClaimKind} (claim : s.sched.claim = some ⟨kind, .announced false⟩)
    (settles : s.sched.slots.any Entry.settles = true) : s.settleStep = s.winClaim := by
  simp [State.settleStep, claim, settles]

theorem State.winClaim_reservation {s : State} {lane : Nat} (claim : s.sched.claim = some ⟨.reservation lane, .announced false⟩) :
    s.winClaim = State.post { s with sched := ⟨s.sched.slots.map Entry.won, none⟩ }
      (.reserveDone lane (s.sched.slots.countP Entry.isClaiming)) := by
  simp only [State.winClaim, claim]
  rfl

theorem State.winClaim_home {s : State} (claim : s.sched.claim = some ⟨.home, .announced false⟩) :
    s.winClaim = State.post { s with
      sched := ⟨s.sched.slots.map Entry.won, none⟩
      station.life := .joined
      tx.lanes := s.tx.lanes.map TxLane.armAtJoin } (.joined (s.homeSlot.getD 0)) := by
  have home : (s.sched.slots.map Entry.won).findIdx? Entry.isHome = s.homeSlot := by
    rw [List.findIdx?_map]
    exact congrArg (List.findIdx? · s.sched.slots) (funext Entry.won_isHome)
  rw [← home]
  simp only [State.winClaim, claim]
  rfl

/-! ### Deadlines -/

/-- The position of a lane that reaches its deadline: the first that does with the sequence. -/
theorem State.dueAt_eq_some {s : State} {l i : Nat} {q : Seq} {p : Position} (at_i : (s.lane l).positions[i]? = some p)
    (seq : p.seq = some q) (reached : p.reached s.timer.cycle = true)
    (first : ∀ o ∈ (s.lane l).positions.take i, ¬ (o.seq = some q ∧ o.reached s.timer.cycle = true)) :
    s.dueAt l q = some i := by
  obtain ⟨inLane, rfl⟩ := List.getElem?_eq_some_iff.1 at_i
  unfold State.dueAt
  rw [List.findIdx?_eq_some_iff_getElem]
  refine ⟨inLane, by simp [seq, reached], fun j before => ?_⟩
  have mem : (s.lane l).positions[j]'(Nat.lt_trans before inLane) ∈ (s.lane l).positions.take i :=
    List.mem_take_iff_getElem.2 ⟨j, by omega, rfl⟩
  simpa [and_comm] using first _ mem

theorem State.nextDeadline_mem {s : State} {l : Nat} {q : Seq} (next : s.nextDeadline l = some q) :
    Due.deadline l q ∈ s.timer.due := by
  obtain ⟨d, mem, found⟩ := List.exists_of_findSome?_eq_some next
  cases d with
  | deadline k o =>
    simp only at found
    split at found
    · rename_i same
      obtain rfl := Option.some.inj found
      exact same ▸ mem
    · cases found
  | _ => cases found

/-- A deadline due would halt the lane. -/
theorem State.limitDue_iff (s : State) (k : Nat) :
    s.limitDue k = true ↔ s.serves = true ∧ ((s.lane k).config ≠ none ∧ (s.lane k).halt = none)
      ∧ ∃ q, Due.deadline k q ∈ s.timer.due
        ∧ ∃ p ∈ (s.lane k).positions, p.seq = some q ∧ p.reached s.timer.cycle = true ∧ p.spent = true := by
  unfold State.limitDue
  rw [Bool.and_eq_true, Bool.and_eq_true, TxLane.ready_iff, and_assoc, List.any_eq_true]
  refine and_congr_right fun _ => and_congr_right fun _ => ⟨?_, ?_⟩
  · rintro ⟨d, mem, h⟩
    cases d with
    | deadline j q =>
      simp only [Bool.and_eq_true, beq_iff_eq, List.any_eq_true] at h
      obtain ⟨rfl, p, hp, ⟨reached, spent⟩, seq⟩ := h
      exact ⟨q, mem, p, hp, seq, reached, spent⟩
    | _ => cases h
  · rintro ⟨q, mem, p, hp, seq, reached, spent⟩
    refine ⟨_, mem, ?_⟩
    simp only [Bool.and_eq_true, beq_iff_eq, List.any_eq_true]
    exact ⟨trivial, p, hp, ⟨reached, spent⟩, seq⟩

/-- The step of a deadline that the lane still meets. -/
theorem State.deadlineStep_eq {s : State} {l i : Nat} {q : Seq} (found : s.dueAt l q = some i) :
    s.deadlineStep l q = if s.atLimit l i then s.haltLane l .retry
      else s.setLane l { s.lane l with positions := (s.lane l).positions.modify i Position.makeEligible } := by
  simp [State.deadlineStep, found]

end Sys2Proof.Machine

namespace Sys2Proof.Proofs

open Sys2Proof.Machine

/-- Settles O57. -/
theorem countsTakeLastStep : Obligations.CountsTakeLastStep := by
  intro s n active taken
  refine ⟨fun x due silent => ?_, fun b h r due closing => ?_, fun x due expiring => ?_, fun due barred => ?_,
    fun due hold => ?_, fun due hold => ?_, fun c d row notDue => ?_⟩
  · rw [exec_row_due active rfl due]
    change Host.Outcome.next ((taken _).setEntry n (s.entry n).silentStep) = _
    rw [silent]
    rfl
  · rw [exec_row_due active rfl due]
    change Host.Outcome.next ((taken _).setEntry n (s.entry n).windowStep) = _
    rw [closing]
    rfl
  · rw [exec_row_due active rfl due]
    change Host.Outcome.next ((taken _).setEntry n (s.entry n).expiryStep) = _
    rw [expiring]
    rfl
  · rw [exec_row_due active rfl due]
    change Host.Outcome.next ((taken _).setEntry n (s.entry n).barStep) = _
    rw [barred]
    rfl
  · rw [exec_row_due active rfl due]
    simp only [State.dueStep, State.relearnStep, hold]
    rfl
  · rw [exec_row_due active rfl due]
    change Host.Outcome.next ((taken _).setLane n { s.lane n with busyHold := (s.lane n).busyHold - 1 }) = _
    rw [hold]
  · have row' : d.row = some c := by
      simp only [List.mem_cons, Prod.mk.injEq, List.not_mem_nil, or_false] at row
      obtain ⟨rfl, rfl⟩ | ⟨rfl, rfl⟩ | ⟨rfl, rfl⟩ | ⟨rfl, rfl⟩ | ⟨rfl, rfl⟩ | ⟨rfl, rfl⟩ | ⟨rfl, rfl⟩ | ⟨rfl, rfl⟩ |
        ⟨rfl, rfl⟩ | ⟨rfl, rfl⟩ := row <;> rfl
    rw [exec_row active row', State.takeDue_absent notDue]

/-- Settles O58. -/
theorem settleWins : Obligations.SettleWins := by
  intro s active due settles u
  refine ⟨fun lane claim => ?_, fun n claim home => ?_⟩
  · rw [exec_row_due active rfl due, State.dueStep,
      State.settleStep_wins (s := { s with timer.due := s.timer.due.erase .settle }) claim settles,
      State.winClaim_reservation (s := { s with timer.due := s.timer.due.erase .settle }) claim]
    rfl
  · have slot : State.homeSlot { s with timer.due := s.timer.due.erase .settle } = some n := home
    rw [exec_row_due active rfl due, State.dueStep,
      State.settleStep_wins (s := { s with timer.due := s.timer.due.erase .settle }) claim settles,
      State.winClaim_home (s := { s with timer.due := s.timer.due.erase .settle }) claim, slot, funext TxLane.armAtJoin_eq]
    rfl

/-- Settles O59. -/
theorem stationCountsEnd : Obligations.StationCountsEnd := by
  intro s active taken claims lowest none'
  have lowest_iff : ∀ (u : State) n, u.sched = s.sched → u.sender = s.sender → lowest n →
      u.sender.queue.length < 4 ∧ u.lowestFree = some n := fun u n sched sender ⟨inTable, free, before, room⟩ =>
    ⟨by rw [sender]; exact room, (u.lowestFree_eq_some n).2 (by
      simp only [State.entry_congr sched, sched]
      exact ⟨inTable, free, before⟩)⟩
  have none_iff : ∀ u : State, u.sched = s.sched → u.sender = s.sender → none' →
      4 ≤ u.sender.queue.length ∨ u.lowestFree = none := fun u sched sender nothing => by
    rw [State.lowestFree_eq_none, sched, sender]
    exact nothing.symm
  refine ⟨fun due listening unmarked ends => ?_, fun due waiting => ?_, fun due leaving ends => ?_⟩
  · intro u
    have step : State.dueStep (taken .listenEnd) .listenEnd = u.homePick := by
      have more : ¬ 1 < s.station.listenCount := by omega
      simp [State.dueStep, State.listenStep, taken, listening, unmarked, more, u]
    rw [exec_row_due active rfl due, show _ = u.homePick from step]
    refine ⟨fun n low => ?_, fun nothing => ?_⟩
    · obtain ⟨room, found⟩ := lowest_iff u n rfl rfl low
      rw [State.homePick_claims room found]
    · rw [State.homePick_waits (none_iff u rfl rfl nothing) (by simp [u, taken, listening])]
  · intro u
    have step : State.dueStep u .waitingPick = u.homePick := by
      simp [State.dueStep, State.waitingStep, u, taken, waiting]
    rw [exec_row_due active rfl due, show _ = u.homePick from step]
    refine ⟨fun n low => ?_, fun nothing => ?_⟩
    · obtain ⟨room, found⟩ := lowest_iff u n rfl rfl low
      rw [State.homePick_claims room found]
    · rw [State.homePick_stays (none_iff u rfl rfl nothing) waiting]
  · have step : State.dueStep (taken .leaveTimeout) .leaveTimeout = (taken .leaveTimeout).moveOffline .timeout := by
      have more : ¬ 1 < s.station.leaveCount := by omega
      simp [State.dueStep, State.leaveStep, taken, leaving, more]
    rw [exec_row_due active rfl due, show _ = (taken .leaveTimeout).moveOffline .timeout from step, State.moveOffline_eq,
      State.offLink_due]

/-- Settles O60. -/
theorem deadlineTaken : Obligations.DeadlineTaken := by
  intro s l i payload seq start retries active next inLanes t at_i first u limit waits
  have row : exec (.deadlineReached l) s = .next (s.deadlineNext l) := by
    rw [exec_eq]
    exact congrArg _ (State.ifActive_active active (·.deadlineNext l))
  have found : s.dueAt l seq = some i := State.dueAt_eq_some at_i rfl (by simp [Position.reached]) first
  have step : s.takeDue (.deadline l seq) = if s.atLimit l i then u.haltLane l .retry
      else u.setLane l { t with positions := t.positions.modify i Position.makeEligible } := by
    rw [State.takeDue_mem (State.nextDeadline_mem next)]
    exact State.deadlineStep_eq (s := u) found
  have limit_iff : s.atLimit l i = true ↔ limit := by
    have read : (s.lane l).positions.getD i ⟨[], none, .loading⟩
        = ⟨payload, some seq, .sent start retries s.timer.cycle false⟩ := by
      rw [List.getD_eq_getElem?_getD, show (s.lane l).positions[i]? = _ from at_i]
      rfl
    rw [State.atLimit, read, Bool.and_eq_true, s.serves_iff]
    simp [Position.spent, limit, and_comm]
  have waits_iff : limit → (s.limitWaits l seq = true ↔ (t.config ≠ none ∧ t.halt = none) ∧ waits) := fun h => by
    have serves : s.serves = true := (s.serves_iff).2 h.2
    rw [State.limitWaits, found, Option.any_some, limit_iff.2 h, Bool.and_true, Bool.and_eq_true, TxLane.ready_iff,
      List.any_eq_true]
    refine and_congr_right fun _ => ?_
    simp only [List.mem_range, State.limitDue_iff, serves, true_and, waits, and_assoc]
  have advance : s.limitWaits l seq = false → s.deadlineNext l = s.takeDue (.deadline l seq) := fun h => by
    simp [State.deadlineNext, next, h]
  rw [row]
  refine ⟨fun below => ?_, fun atLimit free enabled ready => ?_, fun atLimit halted => ?_, fun atLimit wait enabled ready => ?_⟩
  · have notLimit : ¬ s.atLimit l i = true := fun h => below (limit_iff.1 h)
    have noWait : s.limitWaits l seq = false := by
      simp [State.limitWaits, found, Bool.eq_false_iff.2 notLimit]
    have modified : t.positions.modify i Position.makeEligible
        = t.positions.set i ⟨payload, some seq, .sent start retries s.timer.cycle true⟩ := by
      obtain ⟨inLane, at_i⟩ := List.getElem?_eq_some_iff.1 at_i
      rw [List.modify_eq_set_get _ inLane]
      simp [at_i, Position.makeEligible]
    rw [advance noWait, step, if_neg notLimit, modified]
  · have noWait : s.limitWaits l seq = false := by
      rw [Bool.eq_false_iff, ne_eq, waits_iff atLimit]
      exact fun h => free h.2
    have isReady : (u.lane l).ready = true := (TxLane.ready_iff _).2 ⟨enabled, ready⟩
    rw [advance noWait, step, if_pos (limit_iff.2 atLimit), State.haltLane, if_pos isReady]
    rfl
  · have noWait : s.limitWaits l seq = false := by
      rw [Bool.eq_false_iff, ne_eq, waits_iff atLimit]
      exact fun h => halted h.1.2
    have notReady : ¬ (u.lane l).ready = true := fun h => halted ((TxLane.ready_iff _).1 h).2
    rw [advance noWait, step, if_pos (limit_iff.2 atLimit), State.haltLane, if_neg notReady]
  · have waiting : s.limitWaits l seq = true := (waits_iff atLimit).2 ⟨⟨enabled, ready⟩, wait⟩
    simp [State.deadlineNext, next, waiting]

end Sys2Proof.Proofs

/-!
PROOFS. The marks of the cycle timer: what is still due is completed first, a slot end steps silence and window, and a
cycle start steps every per-cycle count (R2, R48, R50, R51, R67, R75, R97, R111).
-/

namespace Sys2Proof.Machine

/-! ### Counts still due are completed -/

theorem State.peerStep_clock (s : State) (p : Nat) : (s.peerStep p).clock = s.clock := by
  simp only [State.peerStep]
  split_ifs <;> simp

theorem State.deadlineStep_clock (s : State) (l : Nat) (q : Seq) : (s.deadlineStep l q).clock = s.clock := by
  simp only [State.deadlineStep]
  split
  · rfl
  · split <;> simp

theorem State.settleStep_clock (s : State) : s.settleStep.clock = s.clock := by
  unfold State.settleStep
  split
  · rfl
  · split
    · exact s.winClaim_clock
    · rfl
  · rfl

theorem State.listenStep_clock (s : State) : s.listenStep.clock = s.clock := by
  unfold State.listenStep
  split_ifs
  · rfl
  · rfl
  · rw [State.homePick_clock]; rfl
  · rfl

/-- The last step of a count leaves what else is due, or takes the station OFFLINE. -/
theorem State.dueStep_onward (s : State) (d : Due) : s.Onward (s.dueStep d) := by
  cases d with
  | settle => exact .inl s.settleStep_clock
  | listenEnd => exact .inl s.listenStep_clock
  | waitingPick => left; change s.waitingStep.clock = _; unfold State.waitingStep; split <;> simp
  | leaveTimeout =>
    change s.Onward s.leaveStep
    unfold State.leaveStep
    split_ifs
    · exact .inl rfl
    · rw [State.moveOffline_eq]; exact s.offLink_onward _
    · exact .inl rfl
  | absence p => exact .inl (s.peerStep_clock p)
  | deadline l q => exact .inl (s.deadlineStep_clock l q)
  | _ => exact .inl rfl

/-- From a list that is due in full, or from a timer that was stopped, completing the list leaves nothing due; a station
still on the link then stands in the same phase. -/
theorem State.foldl_takeDue (l : List Due) (s : State) (due : s.timer.due = l ∨ s.timer.due = []) :
    (l.foldl State.takeDue s).timer.due = []
      ∧ ((l.foldl State.takeDue s).timer.phase = s.timer.phase ∨ (l.foldl State.takeDue s).active = false) := by
  have stopped : ∀ (l : List Due) (t : State), t.timer.due = [] → l.foldl State.takeDue t = t := fun l => by
    induction l with
    | nil => exact fun _ _ => rfl
    | cons d l ih => exact fun t none => by rw [List.foldl_cons, State.takeDue_absent (by simp [none]), ih t none]
  induction l generalizing s with
  | nil => exact ⟨by simpa using due, .inl rfl⟩
  | cons d l ih =>
    obtain all | none := due
    · rw [List.foldl_cons, State.takeDue_mem (by simp [all])]
      obtain same | ⟨-, -, timer, life⟩ := State.dueStep_onward { s with timer.due := s.timer.due.erase d } d
      · have clock := State.clock_eq same
        have rest := ih _ (.inl (clock.2.2.2.trans (by simp [all])))
        rwa [clock.2.2.1] at rest
      · rw [stopped _ _ (by rw [timer]; rfl)]
        exact ⟨by rw [timer]; rfl, .inr (by simp [State.active, life, StationState.onLink])⟩
    · rw [stopped _ _ none]
      exact ⟨none, .inl rfl⟩

theorem State.catchUp_due (s : State) : s.catchUp.timer.due = [] := (State.foldl_takeDue _ s (.inl rfl)).1

theorem State.catchUp_phase {s : State} (active : s.catchUp.active = true) : s.catchUp.timer.phase = s.timer.phase :=
  (State.foldl_takeDue _ s (.inl rfl)).2.resolve_right fun off => Bool.false_ne_true (off.symm.trans active)

theorem State.ifActive_inactive {s : State} (inactive : s.active = false) (f : State → State) : s.ifActive f = s := by
  simp [State.ifActive, inactive]

/-! ### A slot end -/

theorem State.slotEnd_running {s : State} (active : s.active = true) (running : s.timer.phase = .running) :
    s.slotEnd = s.catchUp.ifActive State.endSlot := by
  simp [State.slotEnd, active, State.cycleEnds, running, State.startPassed, State.ifActive]

theorem State.slotEnd_passStart {s : State} (active : s.active = true) (starting : s.timer.phase = .starting) :
    s.slotEnd = s.passStart.slotEnd := by
  have running := s.passStart_marks.2
  have left : s.slotEnd = s.passStart.ifActive fun s => s.catchUp.ifActive State.endSlot := by
    simp [State.slotEnd, active, State.cycleEnds, starting, State.startPassed]
  rw [left]
  cases still : s.passStart.active with
  | true => rw [State.ifActive_active still, State.slotEnd_running still running]
  | false => rw [State.ifActive_inactive still, State.slotEnd_idle (.inl still)]

/-- An entry written over itself leaves the table. -/
theorem State.set_entry (s : State) (n : Nat) : s.sched.slots.set n (s.entry n) = s.sched.slots := by
  by_cases inTable : n < s.sched.slots.length
  · simp [State.entry, inTable]
  · exact List.set_eq_of_length_le (by omega)

/-- The slot passes with this entry and these counts due. -/
def State.slotPassed (s : State) (e : Entry) (due : List Due) : State :=
  { s with
    line := { s.line with sentInSlot := false, heardData := [], heardValid := false }
    sched.slots := s.sched.slots.set s.timer.position e
    timer := { s.timer with
      lastSlot := some (s.timer.position, s.timer.cycle)
      position := if s.timer.position + 1 < s.slotCount then s.timer.position + 1 else s.timer.position
      phase := if s.timer.position + 1 < s.slotCount then .starting else .ended
      due := due } }

/-- What a slot end leaves of the entry of its slot, and of the counts due. -/
theorem State.endSlot_eq {s : State} {e : Entry} {due : List Due}
    (counted : s.countSlot s.timer.position = { s with
      sched.slots := s.sched.slots.set s.timer.position e, timer.due := due }) :
    s.endSlot = s.slotPassed e due := by
  have slots : State.slotCount { s with sched.slots := s.sched.slots.set s.timer.position e, timer.due := due }
      = s.slotCount := rfl
  simp only [State.endSlot, counted, slots, State.slotPassed, LineUnit.newSlot]
  by_cases more : s.timer.position + 1 < s.slotCount <;> simp [more]

section
variable {s : State} {n : Nat}

theorem State.countSlot_same (same : ∀ x k, s.entry n = .peerHeld x k → x ∈ s.line.heardData)
    (same' : ∀ b h r w, s.entry n = .ownYielding b h r w → s.line.sentInSlot = true ∨ s.line.heardValid = true) :
    s.countSlot n = { s with sched.slots := s.sched.slots.set n (s.entry n), timer.due := s.timer.due } := by
  rw [s.set_entry n]
  unfold State.countSlot
  split
  · rename_i x k h
    rw [if_pos (by simpa using same x k h)]
  · rename_i b h r w e
    rw [if_pos (by simpa using same' b h r w e)]
  · rfl

theorem State.countSlot_silent {x k : Nat} (held : s.entry n = .peerHeld x k) (silent : x ∉ s.line.heardData) :
    s.countSlot n = if k < 7 then { s with sched.slots := s.sched.slots.set n (.peerHeld x (k + 1)), timer.due := s.timer.due }
      else { s with sched.slots := s.sched.slots.set n (.peerHeld x k), timer.due := s.timer.due ++ [.lapse n] } := by
  have heard : ¬ s.line.heardData.contains x = true := by simpa using silent
  unfold State.countSlot
  simp only [held]
  rw [if_neg heard]
  split_ifs with a b b
  · simp [State.stepEntry, State.setEntry, held, Entry.silentStep, a]
  · omega
  · omega
  · rw [← held, s.set_entry n]

theorem State.countSlot_window {b : Binding} {h : Bool} {r w : Nat} (yielding : s.entry n = .ownYielding b h r w)
    (quiet : ¬ (s.line.sentInSlot = true ∨ s.line.heardValid = true)) :
    s.countSlot n =
      if 1 < w then { s with sched.slots := s.sched.slots.set n (.ownYielding b h r (w - 1)), timer.due := s.timer.due }
      else { s with sched.slots := s.sched.slots.set n (.ownYielding b h r w), timer.due := s.timer.due ++ [.yieldEnd n] } := by
  have silent : ¬ (s.line.sentInSlot || s.line.heardValid) = true := by simpa using quiet
  unfold State.countSlot
  simp only [yielding]
  rw [if_neg silent]
  split_ifs with a
  · simp [State.stepEntry, State.setEntry, yielding, Entry.windowStep, a]
  · rw [← yielding, s.set_entry n]

end

/-! ### A cycle start -/

/-- The settle counts of an announced claim that does not win, and the mark of its first start. -/
def Schedule.settled (d : Schedule) : Schedule :=
  match d.claim with
  | some ⟨k, .announced true⟩ => ⟨d.slots, some ⟨k, .announced false⟩⟩
  | some ⟨_, .announced false⟩ => if d.slots.any Entry.settles then d else ⟨d.slots.map Entry.settleDown, d.claim⟩
  | _ => d

/-- The station's counts at a cycle start, where they do not run out. -/
def StationControl.counted (c : StationControl) : StationControl :=
  { c with
    restartMark := c.restartMark && c.life != .listening
    listenCount :=
      if c.life = .listening then
        if c.restartMark then 2 else if 1 < c.listenCount then c.listenCount - 1 else c.listenCount
      else c.listenCount
    leaveCount := if c.life = .leaving ∧ 1 < c.leaveCount then c.leaveCount - 1 else c.leaveCount }

/-- The busy hold of a lane at a cycle start, where it does not run out. -/
def TxLane.heldOn (t : TxLane) : TxLane :=
  { t with busyHold := if 1 < t.busyHold then t.busyHold - 1 else t.busyHold }

theorem State.settle_counted (s : State) : (if s.settleRunsOut then s else s.settleStep) = { s with sched := s.sched.settled } := by
  unfold State.settleRunsOut State.settleStep Schedule.settled
  cases claim : s.sched.claim with
  | none => simp
  | some c =>
    obtain ⟨k, _ | mark⟩ := c
    · simp
    · cases mark
      · cases s.sched.slots.any Entry.settles <;> simp [claim]
      · simp

theorem State.station_counted (s : State) :
    (let t := if s.listenRunsOut then s else s.listenStep
     if 1 < t.station.leaveCount then t.leaveStep else t) = { s with station := s.station.counted } := by
  have listened : (if s.listenRunsOut then s else s.listenStep) = { s with station := { s.station with
      restartMark := s.station.counted.restartMark, listenCount := s.station.counted.listenCount } } := by
    unfold State.listenRunsOut State.listenStep StationControl.counted
    by_cases listening : s.station.life = .listening
    · cases mark : s.station.restartMark
      · by_cases more : 1 < s.station.listenCount
        · have less : ¬ s.station.listenCount ≤ 1 := by omega
          simp [listening, mark, more, less]
        · have less : s.station.listenCount ≤ 1 := by omega
          simp [listening, more, less]
          simp [← listening, ← mark]
      · simp [listening]
    · have other : (s.station.life != .listening) = true := by simpa using listening
      simp only [other, Bool.and_true, if_neg listening]
      simp [listening]
  dsimp only
  rw [listened]
  unfold State.leaveStep StationControl.counted
  by_cases leaving : s.station.life = .leaving <;> by_cases more : 1 < s.station.leaveCount <;>
    simp [leaving, more]

/-- The counts of a cycle start that do not run out, block by block. -/
theorem State.cycleCounts_eq (s : State) : s.cycleCounts = { s with
    sched := Schedule.settled ⟨s.sched.slots.map Entry.cycleStep, s.sched.claim⟩
    peers := stepPeers s.station.address 1 s.peers
    station := s.station.counted
    timer.relearnHold := if 1 < s.timer.relearnHold then s.timer.relearnHold - 1 else s.timer.relearnHold
    tx.lanes := s.tx.lanes.map TxLane.heldOn } := by
  unfold State.cycleCounts
  dsimp only
  rw [State.settle_counted, State.station_counted]
  have lanes : (fun t : TxLane => if 1 < t.busyHold then { t with busyHold := t.busyHold - 1 } else t) = TxLane.heldOn := by
    funext t
    unfold TxLane.heldOn
    split <;> rfl
  rw [lanes]
  by_cases more : 1 < s.timer.relearnHold <;> simp [more, State.relearnStep, State.mapLanes]

/-- A station still on the link begins a cycle with every count stepped or due. -/
theorem State.cycleStart_ended {s : State} (active : s.active = true) (ended : s.timer.phase = .ended) :
    s.cycleStart = s.catchUp.ifActive fun s =>
      { s.beginCycle.cycleCounts with timer := { s.beginCycle.cycleCounts.timer with due := s.beginCycle.cycleDues } } := by
  simp [State.cycleStart, State.cycleEnds, active, ended]

/-! ### What a cycle start reads back -/

theorem getD_map_fixed {α : Type} (f : α → α) (l : List α) (i : Nat) {d : α} (fixed : f d = d) :
    (l.map f).getD i d = f (l.getD i d) := by
  by_cases inList : i < l.length <;> simp [inList, fixed]

theorem stepPeers_getD (own a i : Nat) (l : List Peer) :
    (stepPeers own a l).getD i ⟨false, 0, false⟩ = (l.getD i ⟨false, 0, false⟩).cycleStep own (a + i) := by
  induction l generalizing a i with
  | nil => simp [stepPeers, Peer.cycleStep]
  | cons r l ih =>
    cases i with
    | zero => simp [stepPeers]
    | succ i =>
      have := ih (a + 1) i
      simp only [stepPeers, List.getD_cons_succ, this]
      congr 1
      omega

theorem Entry.cycleStep_settles (e : Entry) : e.cycleStep.settles = e.settles := by
  cases e <;> simp only [Entry.cycleStep] <;> (try split) <;> simp_all [Entry.settles, Entry.expiryStep, Entry.barStep]

/-- The claim in flight has been announced since an earlier cycle (R67). -/
def State.settling (s : State) : Bool :=
  match s.sched.claim with
  | some ⟨_, .announced false⟩ => true
  | _ => false

theorem State.settleRunsOut_eq (s : State) : s.settleRunsOut = (s.settling && s.sched.slots.any Entry.settles) := by
  unfold State.settleRunsOut State.settling
  cases claim : s.sched.claim with
  | none => rfl
  | some c =>
    obtain ⟨k, _ | _ | _⟩ := c <;> rfl

theorem Schedule.settled_claim (d : Schedule) : d.settled.claim = match d.claim with
    | some ⟨kind, .announced _⟩ => some ⟨kind, .announced false⟩
    | c => c := by
  unfold Schedule.settled
  cases claim : d.claim with
  | none => simp [claim]
  | some c =>
    obtain ⟨k, _ | mark⟩ := c
    · simp [claim]
    · cases mark <;> simp
      split <;> simp [claim]

/-- The entries of a cycle start. -/
theorem State.settled_entry (s : State) (n : Nat) :
    (Schedule.settled ⟨s.sched.slots.map Entry.cycleStep, s.sched.claim⟩).slots.getD n .free =
      match s.entry n with
      | .peerPending x k => .peerPending x (if 1 < k then k - 1 else k)
      | .barred k => .barred (if 1 < k then k - 1 else k)
      | .ownClaiming b h (some k) =>
          if s.settling = true ∧ ¬ s.sched.slots.any Entry.settles = true then .ownClaiming b h (some (k - 1))
          else .ownClaiming b h (some k)
      | e => e := by
  have stepped : (s.sched.slots.map Entry.cycleStep).getD n .free = (s.entry n).cycleStep :=
    getD_map_fixed _ _ _ rfl
  have settles : (s.sched.slots.map Entry.cycleStep).any Entry.settles = s.sched.slots.any Entry.settles := by
    rw [List.any_map]
    exact congrArg _ (funext Entry.cycleStep_settles)
  have down : (Schedule.settled ⟨s.sched.slots.map Entry.cycleStep, s.sched.claim⟩).slots.getD n .free
      = if s.settling = true ∧ ¬ s.sched.slots.any Entry.settles = true then (s.entry n).cycleStep.settleDown
        else (s.entry n).cycleStep := by
    unfold Schedule.settled State.settling
    cases claim : s.sched.claim with
    | none => simp [← stepped]
    | some c =>
      obtain ⟨k, _ | mark⟩ := c
      · simp [← stepped]
      · cases mark
        · cases any : s.sched.slots.any Entry.settles
          · simp only [settles, any, Bool.false_eq_true, if_false, not_false_eq_true, and_self, if_true]
            rw [getD_map_fixed _ _ _ rfl, stepped]
          · simp only [settles, any, if_true, not_true_eq_false, and_false, if_false, stepped]
        · simp [← stepped]
  rw [down]
  cases s.entry n with
  | ownClaiming b h settle => cases settle <;> simp [Entry.cycleStep, Entry.settleDown]
  | peerPending x k => by_cases more : 1 < k <;> simp [Entry.cycleStep, Entry.settleDown, Entry.expiryStep, more]
  | barred k => by_cases more : 1 < k <;> simp [Entry.cycleStep, Entry.settleDown, Entry.barStep, more]
  | _ => simp [Entry.cycleStep, Entry.settleDown]

/-! ### What is due at a cycle start -/

theorem mem_fourLanes (l : Nat) : l ∈ [0, 1, 2, 3] ↔ l < 4 := by
  simp only [List.mem_cons, List.not_mem_nil, or_false]
  omega

/-- The addresses whose absence comes due, ascending (R97). -/
def State.absencesNow (s : State) : List Nat :=
  ((List.range 62).map (· + 1)).filter fun a => (s.peer a).present && a != s.station.address && 16 ≤ (s.peer a).silence + 1

theorem State.absencesNow_sorted (s : State) : s.absencesNow.Pairwise (· < ·) :=
  List.Pairwise.filter _ ((List.pairwise_map.2 (List.pairwise_lt_range.imp (by omega))))

/-- The counts of a cycle start that are no absence. -/
theorem Entry.cycleDue_eq_some (e : Entry) (n : Nat) (d : Due) :
    e.cycleDue n = some d ↔ (∃ x k, e = .peerPending x k ∧ k ≤ 1 ∧ d = .pendingExpiry n)
      ∨ (∃ k, e = .barred k ∧ k ≤ 1 ∧ d = .barExpire n) := by
  cases e with
  | peerPending x k => by_cases more : 1 < k <;> simp [Entry.cycleDue, more, @eq_comm _ _ d] <;> omega
  | barred k => by_cases more : 1 < k <;> simp [Entry.cycleDue, more, @eq_comm _ _ d] <;> omega
  | _ => simp [Entry.cycleDue]

theorem Peer.cycleStep_eq (own a : Nat) (r : Peer) : r.cycleStep own a = { r with
    silence := if r.present = true ∧ a ≠ own ∧ r.silence < 15 then r.silence + 1 else r.silence } := by
  have steps : (r.present && a != own && decide (r.silence + 1 < 16)) = true ↔ r.present = true ∧ a ≠ own ∧ r.silence < 15 := by
    simp only [Bool.and_eq_true, bne_iff_ne, decide_eq_true_eq, and_assoc]
    exact and_congr_right fun _ => and_congr_right fun _ => by omega
  unfold Peer.cycleStep
  by_cases runs : r.present = true ∧ a ≠ own ∧ r.silence < 15
  · rw [if_pos (steps.2 runs), if_pos runs]
  · rw [if_neg (runs ∘ steps.1), if_neg runs]

/-- What is due at a cycle start, count by count. -/
theorem State.mem_cycleDues (s : State) (d : Due) : d ∈ s.cycleDues ↔
    d = .relearnHold ∧ s.timer.relearnHold = 1
    ∨ (∃ n x k, s.entry n = .peerPending x k ∧ k ≤ 1 ∧ d = .pendingExpiry n)
    ∨ (∃ n k, s.entry n = .barred k ∧ k ≤ 1 ∧ d = .barExpire n)
    ∨ (∃ l < 4, (s.lane l).busyHold = 1 ∧ d = .busyHold l)
    ∨ d = .settle ∧ s.settling = true ∧ s.sched.slots.any Entry.settles = true
    ∨ (∃ l < 4, ∃ p ∈ (s.lane l).positions, p.reached s.timer.cycle = true ∧ d = .deadline l (p.seq.getD 0))
    ∨ (∃ a, 1 ≤ a ∧ a ≤ 62 ∧ (s.peer a).present = true ∧ a ≠ s.station.address ∧ 15 ≤ (s.peer a).silence ∧ d = .absence a)
    ∨ d = .leaveTimeout ∧ s.station.life = .leaving ∧ s.station.leaveCount ≤ 1
    ∨ d = .listenEnd ∧ s.station.life = .listening ∧ s.station.restartMark = false ∧ s.station.listenCount ≤ 1
    ∨ d = .waitingPick ∧ s.station.life = .waiting := by
  have one : ∀ (p : Prop) [Decidable p] (e : Due), d ∈ (if p then [e] else []) ↔ d = e ∧ p := fun p _ e => by
    split <;> simp_all
  have slots : d ∈ (List.range s.sched.slots.length).filterMap (fun n => (s.entry n).cycleDue n) ↔
      (∃ n x k, s.entry n = .peerPending x k ∧ k ≤ 1 ∧ d = .pendingExpiry n)
      ∨ (∃ n k, s.entry n = .barred k ∧ k ≤ 1 ∧ d = .barExpire n) := by
    rw [List.mem_filterMap, ← exists_or]
    refine exists_congr fun n => ?_
    rw [Entry.cycleDue_eq_some, and_iff_right_of_imp]
    intro due
    by_contra outside
    have past : s.sched.slots.length ≤ n := by simpa using outside
    have free : s.entry n = .free := by simp [State.entry, past]
    simp [free] at due
  have lanes : d ∈ ([0, 1, 2, 3].filter fun l => decide ((s.lane l).busyHold = 1)).map Due.busyHold ↔
      ∃ l < 4, (s.lane l).busyHold = 1 ∧ d = .busyHold l := by
    rw [List.mem_map]
    refine exists_congr fun l => ?_
    rw [List.mem_filter, mem_fourLanes, decide_eq_true_iff, and_assoc, @eq_comm _ _ d]
  have deadlines : d ∈ [0, 1, 2, 3].flatMap (fun l =>
        ((s.lane l).positions.filter (Position.reached s.timer.cycle)).map fun p => Due.deadline l (p.seq.getD 0)) ↔
      ∃ l < 4, ∃ p ∈ (s.lane l).positions, p.reached s.timer.cycle = true ∧ d = .deadline l (p.seq.getD 0) := by
    rw [List.mem_flatMap]
    refine exists_congr fun l => ?_
    rw [mem_fourLanes, List.mem_map]
    refine and_congr_right fun _ => exists_congr fun p => ?_
    rw [List.mem_filter, and_assoc, @eq_comm _ _ d]
  have absences : d ∈ ((List.range 62).map (· + 1)).filterMap (fun a =>
        if (s.peer a).present && a != s.station.address && 16 ≤ (s.peer a).silence + 1 then some (Due.absence a) else none) ↔
      ∃ a, 1 ≤ a ∧ a ≤ 62 ∧ (s.peer a).present = true ∧ a ≠ s.station.address ∧ 15 ≤ (s.peer a).silence ∧ d = .absence a := by
    rw [List.mem_filterMap]
    refine exists_congr fun a => ?_
    have address : a ∈ (List.range 62).map (· + 1) ↔ 1 ≤ a ∧ a ≤ 62 := by
      rw [List.mem_map]
      exact ⟨fun ⟨k, h, e⟩ => by have := List.mem_range.1 h; omega, fun h => ⟨a - 1, List.mem_range.2 (by omega), by omega⟩⟩
    rw [address, Option.ite_none_right_eq_some]
    simp [and_assoc, @eq_comm _ _ d]
  unfold State.cycleDues
  simp only [List.mem_append, one, slots, lanes, deadlines, absences]
  simp only [State.settleRunsOut_eq, State.listenRunsOut, Bool.and_eq_true, beq_iff_eq, decide_eq_true_eq, Bool.not_eq_true', or_assoc, and_assoc]

/-- The peer whose absence is due (R97). -/
def Due.absentPeer : Due → Option Nat
  | .absence a => some a
  | _ => none

theorem CycleTimer.absencesDue_eq (t : CycleTimer) : t.absencesDue = t.due.filterMap Due.absentPeer := by
  unfold CycleTimer.absencesDue
  refine List.filterMap_congr fun d _ => ?_
  cases d <;> rfl

theorem Due.absentPeer_eq_some (d : Due) (a : Nat) : d.absentPeer = some a ↔ d = .absence a := by
  cases d <;> simp [Due.absentPeer]

/-- A cycle start makes absences due in ascending order. -/
theorem State.cycleDues_absences (s : State) : s.cycleDues.filterMap Due.absentPeer = s.absencesNow := by
  have one : ∀ (p : Prop) [Decidable p] (d : Due), d.absentPeer = none →
      (if p then [d] else []).filterMap Due.absentPeer = [] := fun p _ d h => by split <;> simp [h]
  have slots : ∀ l : List Nat, (l.filterMap fun n => (s.entry n).cycleDue n).filterMap Due.absentPeer = [] := fun l => by
    rw [List.filterMap_eq_nil_iff]
    intro d mem
    obtain ⟨n, -, due⟩ := List.mem_filterMap.1 mem
    obtain ⟨x, k, -, -, rfl⟩ | ⟨k, -, -, rfl⟩ := (Entry.cycleDue_eq_some _ _ _).1 due <;> rfl
  have lanes : ∀ l : List Nat, (l.map Due.busyHold).filterMap Due.absentPeer = [] := fun l => by
    rw [List.filterMap_map]
    exact List.filterMap_eq_nil_iff.2 fun _ _ => rfl
  have deadlines : ∀ (l : List Nat) (f : Nat → List Position),
      (l.flatMap fun l => (f l).map fun p => Due.deadline l (p.seq.getD 0)).filterMap Due.absentPeer = [] := fun l f => by
    rw [List.filterMap_eq_nil_iff]
    intro d mem
    obtain ⟨k, -, mem⟩ := List.mem_flatMap.1 mem
    obtain ⟨p, -, rfl⟩ := List.mem_map.1 mem
    rfl
  unfold State.cycleDues
  simp only [List.filterMap_append, one _ .relearnHold rfl, slots, lanes, one _ .settle rfl, deadlines,
    one _ .leaveTimeout rfl, one _ .listenEnd rfl, one _ .waitingPick rfl, List.nil_append, List.append_nil]
  rw [State.absencesNow, List.filterMap_filterMap, ← List.filterMap_eq_filter]
  refine List.filterMap_congr fun a _ => ?_
  split <;> rename_i now <;> simp only [Option.bind_some, Option.bind_none, Due.absentPeer, Option.guard, now] <;> rfl

end Sys2Proof.Machine

namespace Sys2Proof.Proofs

open Sys2Proof.Machine

/-- Settles O56. -/
theorem slotEndCounts : Obligations.SlotEndCounts := by
  refine ⟨fun s idle => ?_, fun s active starting => ?_, fun s active running => ⟨s.catchUp_due, ?_⟩,
    fun s active running none => ?_⟩
  · have idle' : s.active = false ∨ s.cycleEnds = true := by
      cases active : s.active
      · exact .inl rfl
      · exact .inr (by simpa [State.cycleEnds, active] using idle)
    rw [exec_eq, State.after, State.slotEnd_idle idle']
  · exact ⟨s.passStart, s.silentStart_passStart, by
      rw [exec_eq, exec_eq, State.after, State.after, State.slotEnd_passStart active starting]⟩
  · rw [exec_eq, exec_eq, State.after, State.after, State.slotEnd_running active running]
    split
    · rename_i still
      rw [State.slotEnd_running still ((State.catchUp_phase still).trans running), State.catchUp_nil s.catchUp_due]
    · rename_i off
      rw [State.ifActive_inactive (by simpa using off)]
  · intro n after
    have ends : exec .slotEnd s = .next s.endSlot := by
      rw [exec_eq, State.after, State.slotEnd_running active running, State.catchUp_nil none, State.ifActive_active active]
    have due : ∀ {e d}, s.countSlot n = { s with sched.slots := s.sched.slots.set n e, timer.due := s.timer.due ++ d } →
        exec .slotEnd s = after e d := fun {e d} counted => by
      rw [none, List.nil_append] at counted
      rw [ends, State.endSlot_eq counted]
      rfl
    have same : ∀ {e}, s.countSlot n = { s with sched.slots := s.sched.slots.set n e, timer.due := s.timer.due } →
        exec .slotEnd s = after e [] := fun {e} counted => due (by rw [List.append_nil]; exact counted)
    cases entry : s.entry n with
    | peerHeld x k =>
      dsimp only
      split_ifs with heard silent
      · exact same (entry ▸ State.countSlot_same (fun y j h => by rw [entry] at h; cases h; exact heard)
          (fun b h r w e => by rw [entry] at e; cases e))
      · exact same ((State.countSlot_silent entry heard).trans (if_pos silent))
      · exact due ((State.countSlot_silent entry heard).trans (if_neg silent))
    | ownYielding b h r w =>
      dsimp only
      split_ifs with used more
      · exact same (entry ▸ State.countSlot_same (fun y j e => by rw [entry] at e; cases e) (fun _ _ _ _ _ => used))
      · exact same ((State.countSlot_window entry used).trans (if_pos more))
      · exact due ((State.countSlot_window entry used).trans (if_neg more))
    | _ =>
      exact same (entry ▸ State.countSlot_same (fun y j e => by rw [entry] at e; cases e)
        (fun b h r w e => by rw [entry] at e; cases e))

/-- Settles O55. -/
theorem cycleStartCounts : Obligations.CycleStartCounts := by
  refine ⟨fun s idle => ?_, fun s active ended => ⟨s.catchUp_due, ?_⟩, fun s active ended nothing => ?_⟩
  · have idle' : s.cycleEnds = false := by
      obtain off | other := idle <;> simp_all [State.cycleEnds]
    rw [exec_eq, State.after, State.cycleStart_idle idle']
  · rw [exec_eq, exec_eq, State.after, State.after, State.cycleStart_ended active ended]
    split
    · rename_i still
      rw [State.cycleStart_ended still ((State.catchUp_phase still).trans ended), State.catchUp_nil s.catchUp_due]
    · rename_i off
      rw [State.ifActive_inactive (by simpa using off)]
  · intro settling
    have row : exec .cycleStart s = .next { s.beginCycle.cycleCounts with
        timer := { s.beginCycle.cycleCounts.timer with due := s.beginCycle.cycleDues } } := by
      rw [exec_eq, State.after, State.cycleStart_ended active ended, State.catchUp_nil nothing, State.ifActive_active active]
    have settles : s.settling = settling := rfl
    have entries := s.settled_entry
    rw [settles] at entries
    rw [State.cycleCounts_eq] at row
    refine ⟨_, row, ⟨rfl, rfl, rfl, rfl⟩, ⟨rfl, rfl⟩, rfl, rfl, rfl, fun n => ?_, ?_, fun a one => ?_, fun l => ?_,
      ⟨rfl, rfl, rfl, rfl, rfl, rfl, rfl, rfl⟩, ?_, fun d => ?_⟩
    · rw [show ∀ u : State, u.entry n = u.sched.slots.getD n .free from fun _ => rfl]
      refine (entries n).trans ?_
      cases s.entry n with
      | ownClaiming b h settle => cases settle <;> rfl
      | _ => rfl
    · exact Schedule.settled_claim _
    · have read : (stepPeers s.station.address 1 s.peers).getD (a - 1) ⟨false, 0, false⟩
          = (s.peer a).cycleStep s.station.address a := by
        rw [stepPeers_getD, Nat.add_sub_cancel' one]; rfl
      refine read.trans ?_
      exact Peer.cycleStep_eq _ _ _
    · exact getD_map_fixed _ _ _ rfl
    · rw [CycleTimer.absencesDue_eq]
      change (s.beginCycle.cycleDues.filterMap _).Pairwise _
      rw [State.cycleDues_absences]
      exact State.absencesNow_sorted _
    · refine (State.mem_cycleDues s.beginCycle d).trans ?_
      rw [show s.beginCycle.settling = settling from settles]
      cases d with
      | deadline l q => simp [State.beginCycle, State.lane, @eq_comm _ q]
      | _ => simp [State.beginCycle, State.entry, State.lane, State.peer]

end Sys2Proof.Proofs

/-!
PROOFS. The loss of an own slot: to a frame heard (R44, R45, R68 to R70, R76, R78), to the readback of an own DATA frame
(R73, R74, R77), and the readback of a control frame (R66, R71, R85 to R87).
-/

namespace Sys2Proof.Machine

/-! ### Events -/

/-- A port after a post (R163); `State.post_eq` ties it to the model. -/
def HostPort.posted (p : HostPort) (cycle : CycleNum) (e : Event) : HostPort :=
  if p.events.length < 16 then { p with events := p.events ++ [⟨e, cycle⟩] } else { p with lost := min (p.lost + 1) 255 }

def HostPort.postedAll (p : HostPort) (cycle : CycleNum) (es : List Event) : HostPort :=
  es.foldl (fun p e => p.posted cycle e) p

theorem State.post_eq (s : State) (e : Event) : s.post e = { s with port := s.port.posted s.timer.cycle e } := by
  unfold State.post HostPort.posted
  split <;> rfl

theorem State.postAll_eq (s : State) (es : List Event) :
    s.postAll es = { s with port := s.port.postedAll s.timer.cycle es } := by
  induction es generalizing s with
  | nil => rfl
  | cons e es ih =>
    change State.postAll (s.post e) es = _
    rw [ih, State.post_eq]
    rfl

theorem HostPort.postedAll_append (p : HostPort) (cycle : CycleNum) (es fs : List Event) :
    p.postedAll cycle (es ++ fs) = (p.postedAll cycle es).postedAll cycle fs := List.foldl_append ..

/-! ### Entries of the table -/

theorem State.entry_lt {s : State} {n : Nat} (used : s.entry n ≠ .free) : n < s.sched.slots.length := by
  by_contra past
  exact used (by simp [State.entry, Nat.not_lt.1 past])

theorem State.entry_isHeld_lt {s : State} {n : Nat} (held : (s.entry n).isHeld = true) : n < s.sched.slots.length :=
  State.entry_lt fun free => by rw [free] at held; cases held

/-- The lowest entry that is held. -/
theorem State.lowestHeld_eq {s : State} {m : Nat} (held : (s.entry m).isHeld = true)
    (before : ∀ k < m, (s.entry k).isHeld = false) : s.sched.slots.findIdx? Entry.isHeld = some m := by
  have inTable := State.entry_isHeld_lt held
  rw [List.findIdx?_eq_some_iff_getElem]
  refine ⟨inTable, by simpa [State.entry, inTable] using held, fun k hk => ?_⟩
  simpa [State.entry, Nat.lt_trans hk inTable] using before k hk

theorem State.lowestHeld_none {s : State} (free : ∀ k, (s.entry k).isHeld = false) :
    s.sched.slots.findIdx? Entry.isHeld = none := by
  rw [List.findIdx?_eq_none_iff]
  intro e mem
  obtain ⟨k, inTable, rfl⟩ := List.mem_iff_getElem.1 mem
  simpa [State.entry, inTable] using free k

theorem State.any_entry (s : State) {p : Entry → Bool} (free : p .free = false) :
    s.sched.slots.any p = true ↔ ∃ k, p (s.entry k) = true := by
  rw [List.any_eq_true]
  constructor
  · rintro ⟨e, mem, holds⟩
    obtain ⟨k, inTable, rfl⟩ := List.mem_iff_getElem.1 mem
    exact ⟨k, by simpa [State.entry, inTable] using holds⟩
  · rintro ⟨k, holds⟩
    obtain mem | none := s.entry_mem k
    · exact ⟨_, mem, holds⟩
    · rw [none, free] at holds; cases holds

/-! ### The CLAIM frame in the queue -/

theorem State.withoutClaim_congr {s t : State} (sender : t.sender = s.sender) (address : t.station.address = s.station.address)
    (before after : List CtlFrame) : t.withoutClaim before after = s.withoutClaim before after := by
  simp only [State.withoutClaim, State.withoutHead, sender, address]

theorem filter_keeps {α : Type} {p : α → Bool} {l : List α} (h : ∀ a ∈ l, p a = true) : l.filter p = l :=
  List.filter_eq_self.2 h

/-- A queue without a CLAIM frame loses none. -/
theorem State.dropClaim_none {s : State} (none : ∀ f ∈ s.sender.queue, f.kind ≠ .claim) : s.dropClaim = s := by
  unfold State.dropClaim
  split
  · rfl
  · rename_i f rest queue
    rw [queue] at none
    have kind : (f.kind == CtlKind.claim) = false := by simpa using none f (by simp)
    have others : rest.filter (·.kind != .claim) = rest := filter_keeps fun g mem => by simpa using none g (by simp [mem])
    rw [kind, others, ← queue]
    rfl

/-- The CLAIM frame leaves the queue, and a frame that so becomes the head draws (R83). -/
theorem State.dropClaim_queued {s : State} {before after : List CtlFrame} {slots : List Nat}
    (queued : s.ClaimQueued before slots after) : s.dropClaim = { s with sender := s.withoutClaim before after } := by
  obtain ⟨queue, others⟩ := queued
  unfold State.dropClaim
  cases before with
  | nil =>
    have head : State.newHead { s with sender.queue := after }
        = { s with sender := State.withoutHead s } := by
      unfold State.newHead State.withoutHead State.nextGenerator
      rw [queue]
      cases after <;> rfl
    simp only [queue, List.nil_append, beq_self_eq_true, if_true, head, State.withoutClaim]
  | cons f before =>
    have kind : (f.kind == CtlKind.claim) = false := by simpa using others f (by simp)
    have rest : (before ++ ⟨.claim, slots⟩ :: after).filter (·.kind != .claim) = before ++ after := by
      rw [List.filter_append, List.filter_cons_of_neg (by simp),
        filter_keeps fun g mem => by simpa using others g (by simp [mem]),
        filter_keeps fun g mem => by simpa using others g (by simp [mem])]
    simp only [queue, List.cons_append, kind, Bool.false_eq_true, if_false, rest, State.withoutClaim, reduceCtorEq]

/-- A slot taken off the list of a CLAIM frame. -/
def CtlFrame.strip (n : Nat) (f : CtlFrame) : CtlFrame :=
  if f.kind == .claim then { f with slots := f.slots.filter (· != n) } else f

theorem CtlFrame.strip_other {n : Nat} {f : CtlFrame} (other : f.kind ≠ .claim) : f.strip n = f := by
  simp [CtlFrame.strip, other]

theorem State.stripped_queue {s : State} {before after : List CtlFrame} {slots : List Nat}
    (queued : s.ClaimQueued before slots after) (n : Nat) :
    s.sender.queue.map (CtlFrame.strip n) = before ++ ⟨.claim, slots.filter (· != n)⟩ :: after := by
  obtain ⟨queue, others⟩ := queued
  have same : ∀ l : List CtlFrame, (∀ f ∈ l, f.kind ≠ .claim) → l.map (CtlFrame.strip n) = l := fun l h =>
    (List.map_congr_left fun f mem => CtlFrame.strip_other (h f mem)).trans (List.map_id _)
  rw [queue, List.map_append, List.map_cons, same before fun f mem => others f (by simp [mem]),
    same after fun f mem => others f (by simp [mem])]
  rfl

theorem State.editClaim_eq (s : State) (n : Nat) :
    s.editClaim n =
      (let t := { s with sender.queue := s.sender.queue.map (CtlFrame.strip n) }
       if t.sender.queue.any (fun f => f.kind == .claim && f.slots.isEmpty) then t.dropClaim else t) := rfl

/-- The queued CLAIM frame loses a slot (R68). -/
theorem State.editClaim_keeps {s : State} {before after : List CtlFrame} {slots : List Nat} {n : Nat}
    (queued : s.ClaimQueued before slots after) (more : slots.filter (· != n) ≠ []) :
    s.editClaim n = { s with sender.queue := before ++ ⟨.claim, slots.filter (· != n)⟩ :: after } := by
  rw [State.editClaim_eq, State.stripped_queue queued]
  refine if_neg ?_
  have others : ∀ f ∈ before ++ after, (f.kind == CtlKind.claim) = false := fun f mem => by simpa using queued.2 f mem
  simp only [List.any_append, List.any_cons, Bool.or_eq_true, List.any_eq_true, Bool.and_eq_true, List.isEmpty_iff]
  rintro (⟨f, mem, kind, -⟩ | ⟨-, empty⟩ | ⟨f, mem, kind, -⟩)
  · rw [others f (by simp [mem])] at kind; cases kind
  · exact more empty
  · rw [others f (by simp [mem])] at kind; cases kind

/-- The queued CLAIM frame leaves with its last slot (R68). -/
theorem State.editClaim_drops {s : State} {before after : List CtlFrame} {slots : List Nat} {n : Nat}
    (queued : s.ClaimQueued before slots after) (last : slots.filter (· != n) = []) :
    s.editClaim n = { s with sender := s.withoutClaim before after } := by
  have stripped : State.ClaimQueued { s with sender.queue := s.sender.queue.map (CtlFrame.strip n) } before [] after :=
    ⟨by rw [← last]; exact State.stripped_queue queued n, queued.2⟩
  have sender : State.withoutClaim { s with sender.queue := s.sender.queue.map (CtlFrame.strip n) } before after
      = s.withoutClaim before after := by
    unfold State.withoutClaim State.withoutHead
    rw [stripped.1, queued.1]
    cases before <;> rfl
  rw [State.editClaim_eq, if_pos, State.dropClaim_queued stripped, sender]
  rw [stripped.1]
  simp

/-! ### The home slot -/

theorem State.freeEntries_own_claiming (l : List Entry) :
    (l.map (Entry.freeIf fun e => e.isOwn && !e.isClaiming)).map (Entry.freeIf Entry.isClaiming)
      = l.map fun e => if e.isOwn then .free else e := by
  rw [List.map_map]
  refine List.map_congr_left fun e _ => ?_
  cases e <;> rfl

section
variable {v : State}

/-- The home flag passes to the lowest held slot (R78). -/
theorem State.homeLost_passes {m : Nat} {c : Binding} {h : Bool} {q : Nat} (held : v.entry m = .ownHeld c h q)
    (before : ∀ k < m, (v.entry k).isHeld = false) : v.homeLost = v.setEntry m (.ownHeld c true q) := by
  have found := State.lowestHeld_eq (s := v) (m := m) (by rw [held]; rfl) before
  simp only [State.homeLost, found, held]
  rfl

variable (none : ∀ k, (v.entry k).isHeld = false)
include none

/-- Without a held slot a LEAVING station moves to OFFLINE (R36). -/
theorem State.homeLost_leaving (leaving : v.station.life = .leaving) : v.homeLost = v.offLink .host := by
  simp only [State.homeLost, State.lowestHeld_none none, leaving, State.moveOffline_eq]

/-- Without a held slot or a reservation a JOINED station picks anew (R33). -/
theorem State.homeLost_unclaimed (joined : v.station.life = .joined) (claim : v.sched.claim = .none) :
    v.homeLost = (v.freeEntries fun e => e.isOwn && !e.isClaiming).homePick := by
  have unclaimed : (v.freeEntries fun e => e.isOwn && !e.isClaiming).sched.claim = Option.none := claim
  simp only [State.homeLost, State.lowestHeld_none none, joined, unclaimed, Option.isSome_none, Bool.false_eq_true,
    if_false]
  rw [State.endClaim, unclaimed]

/-- Without a held slot a JOINED station gives up its reservation too (R33). -/
theorem State.homeLost_reserved (joined : v.station.life = .joined) {lane : Nat} {phase : ClaimPhase} {o : OpenSender}
    (claim : v.sched.claim = some ⟨.reservation lane, phase⟩)
    (dropped : ∀ t : State, t.sender = v.sender → t.station = v.station → t.dropClaim = { t with sender := o }) :
    v.homeLost = v.startsOver lane o := by
  have unclaimed : (v.freeEntries fun e => e.isOwn && !e.isClaiming).sched.claim = some ⟨.reservation lane, phase⟩ := claim
  simp only [State.homeLost, State.lowestHeld_none none, joined, unclaimed, Option.isSome_some, if_true,
    dropped (v.freeEntries fun e => e.isOwn && !e.isClaiming) rfl rfl]
  rw [State.endClaim_eq]
  simp only [unclaimed, State.startsOver]
  rw [State.unclaimed, State.freeEntries]
  simp only [← State.freeEntries_own_claiming]
  rfl

/-- The same with the CLAIM frame still queued. -/
theorem State.homeLost_unsent (joined : v.station.life = .joined) {lane : Nat} {before after : List CtlFrame}
    {slots : List Nat} (claim : v.sched.claim = some ⟨.reservation lane, .unsent⟩) (queued : v.ClaimQueued before slots after) :
    v.homeLost = v.startsOver lane (v.withoutClaim before after) :=
  State.homeLost_reserved none joined claim fun t sender station => by
    rw [State.dropClaim_queued (s := t) ⟨by rw [sender]; exact queued.1, queued.2⟩,
      State.withoutClaim_congr sender (by rw [station])]

/-- The same with the CLAIM announced. -/
theorem State.homeLost_announced (joined : v.station.life = .joined) {lane : Nat} {phase : ClaimPhase}
    (claim : v.sched.claim = some ⟨.reservation lane, phase⟩) (unqueued : ∀ f ∈ v.sender.queue, f.kind ≠ .claim) :
    v.homeLost = v.startsOver lane v.sender :=
  State.homeLost_reserved none joined claim fun t sender _ => by
    rw [State.dropClaim_none (by rwa [sender]), ← sender]

end

/-! ### A CLAIM frame heard -/

/-- What a CLAIM teaches of one slot, by the entry it stands on (R44). -/
theorem State.learnClaim_used {s : State} {n : Nat} (x : Nat) (used : n < s.scheduled) :
    s.learnClaim x n = match s.entry n with
      | .free => s.setEntry n (.peerPending x 6)
      | .peerPending y _ => if x ≤ y then s.setEntry n (.peerPending x 6) else s
      | .ownClaiming b h settle =>
          if x < s.station.address then (s.setEntry n (.peerPending x 6)).lossNotice n (.ownClaiming b h settle) else s
      | _ => s := by
  simp only [State.learnClaim, used, if_true]
  cases s.entry n <;> rfl

theorem eachOnce_of_nodup (slots : List Nat) (once : slots.Nodup) : eachOnce slots = slots := by
  induction slots using List.reverseRecOn with
  | nil => rfl
  | append_singleton l n ih =>
    obtain ⟨first, -, apart⟩ := List.nodup_append.1 once
    have fresh : n ∉ eachOnce l := by
      rw [mem_eachOnce]
      exact fun mem => apart n mem n (by simp) rfl
    rw [eachOnce_concat, if_neg fresh, ih first]

/-- A number listed again changes nothing. -/
theorem eachOnce_again (before : List Nat) (n : Nat) (after : List Nat) (seen : n ∈ before) :
    eachOnce (before ++ n :: after) = eachOnce (before ++ after) := by
  induction after using List.reverseRecOn with
  | nil => rw [eachOnce_concat, if_pos ((mem_eachOnce n before).2 seen), List.append_nil]
  | append_singleton l m ih =>
    rw [← List.cons_append, ← List.append_assoc, ← List.append_assoc, eachOnce_concat, eachOnce_concat, ih]

/-! ### A loss notice -/

theorem State.lossNotice_unsent {s : State} {n : Nat} {b : Binding} {h : Bool} {settle : Option Nat} {kind : ClaimKind}
    (claim : s.sched.claim = some ⟨kind, .unsent⟩) :
    s.lossNotice n (.ownClaiming b h settle) =
      if s.sched.slots.any Entry.isClaiming then s.editClaim n else (s.editClaim n).claimLost := by
  simp only [State.lossNotice, claim, State.editClaim_sched]

theorem State.lossNotice_announced {s : State} {n : Nat} {b : Binding} {h mark : Bool} {settle : Option Nat}
    {kind : ClaimKind} (claim : s.sched.claim = some ⟨kind, .announced mark⟩) :
    s.lossNotice n (.ownClaiming b h settle) = if s.sched.slots.any Entry.isClaiming then s else s.claimLost := by
  simp only [State.lossNotice, claim]

end Sys2Proof.Machine

namespace Sys2Proof.Proofs

open Sys2Proof.Machine

/-- Settles O40. -/
theorem claimFrameLearned : Obligations.ClaimFrameLearned := by
  refine ⟨fun s x n => ⟨fun unused => ?_, fun used => ?_⟩, fun s h slots => ⟨fun once => ?_, ?_⟩⟩
  · simp [State.learnClaim, Nat.not_lt.2 unused]
  · rw [State.learnClaim_used x used]
    cases s.entry n with
    | peerPending y k =>
      dsimp only
      split_ifs <;> first | rfl | omega
    | _ => rfl
  · change (eachOnce slots).foldl _ s = _
    rw [eachOnce_of_nodup slots once]
  · rintro before n after rfl seen
    change (eachOnce _).foldl _ s = (eachOnce _).foldl _ s
    rw [eachOnce_again before n after seen]

/-- Settles O42. -/
theorem ownSlotLost : Obligations.OwnSlotLost := by
  intro s x n taken after used how u others
  have notOwn : taken.isHeld = false ∧ taken.isClaiming = false := by
    obtain ⟨rfl, -⟩ | ⟨rfl, -⟩ := how <;> exact ⟨rfl, rfl⟩
  have claimLost : ∀ {b h settle}, s.entry n = .ownClaiming b h settle →
      after = u.lossNotice n (.ownClaiming b h settle) := fun {b h settle} entry => by
    obtain ⟨rfl, rfl⟩ | ⟨rfl, -, lower, rfl⟩ := how
    · rw [State.learnData_takes x used (by rw [entry]; rfl), entry]
    · rw [State.learnClaim_used x used, entry]
      exact if_pos lower
  have yieldLost : ∀ {b h r w}, s.entry n = .ownYielding b h r w →
      after = (if h then (u.post (.slotLost n .yielded)).homeLost else u.post (.slotLost n .yielded)) :=
    fun {b h r w} entry => by
      obtain ⟨rfl, rfl⟩ | ⟨-, claiming, -⟩ := how
      · rw [State.learnData_takes x used (by rw [entry]; rfl), entry]
        rfl
      · rw [entry] at claiming; cases claiming
  have other : ∀ k, k ≠ n → u.entry k = s.entry k := fun k ne => s.entry_setEntry_ne taken ne
  have none : ∀ p : Entry → Bool, p .free = false → p taken = false → ¬ others p → ∀ k, p (u.entry k) = false :=
    fun p free lost none k => by
      by_cases same : k = n
      · subst same
        by_cases inTable : k < s.sched.slots.length
        · rw [s.entry_setEntry, if_pos ⟨rfl, inTable⟩, lost]
        · rw [s.entry_setEntry, if_neg fun h => inTable h.2]
          simpa [State.entry, Nat.not_lt.1 inTable] using free
      · rw [other k same]
        exact Bool.eq_false_iff.2 fun holds => none ⟨k, same, holds⟩
  have posted : ∀ k, (u.post (.slotLost n .yielded)).entry k = u.entry k := fun k => State.entry_congr (by simp) k
  have noneHeld : ¬ others Entry.isHeld → ∀ k, ((u.post (.slotLost n .yielded)).entry k).isHeld = false := fun h k => by
    rw [posted]
    exact none _ rfl notOwn.1 h k
  have queued : ∀ {t : State} {before slots after}, t.sender = s.sender → s.ClaimQueued before slots after →
      t.ClaimQueued before slots after := fun sender q => ⟨by rw [sender]; exact q.1, q.2⟩
  have claiming : u.sched.slots.any Entry.isClaiming = true ↔ others Entry.isClaiming := by
    refine ⟨fun any => by_contra fun h => ?_, fun ⟨k, ne, holds⟩ => ?_⟩
    · obtain ⟨k, holds⟩ := (u.any_entry rfl).1 any
      rw [none _ rfl notOwn.2 h k] at holds; cases holds
    · exact (u.any_entry rfl).2 ⟨k, by rwa [other k ne]⟩
  have bne : (fun k => decide (k ≠ n)) = (· != n) := funext fun k => by by_cases same : k = n <;> simp [same]
  refine ⟨fun b r w entry => yieldLost entry, fun b r w m c h q entry held before => ?_,
    fun b r w entry lost leaving => ?_, fun b r w entry lost joined claim => ?_,
    fun b r w lane entry lost joined => ⟨fun before slots rest claim q => ?_, fun mark claim unqueued => ?_⟩,
    fun b h settle kind before slots rest entry claim more q left => ?_,
    fun b h settle before rest entry lost q => ⟨fun lane claim => ?_, fun claim => ?_⟩,
    fun b h settle kind mark entry claim more => ?_, fun b h settle lane mark entry claim lost => ?_,
    fun b h settle mark entry claim lost => ?_⟩
  · have ne : m ≠ n := fun same => by rw [same, entry] at held; cases held
    refine (yieldLost entry).trans (State.homeLost_passes (h := h) ?_ fun k lower => ?_)
    · rw [posted, other m ne, held]
    · rw [posted]
      by_cases same : k = n
      · rw [same, State.entry_setEntry, if_pos ⟨rfl, State.entry_lt (by rw [entry]; nofun)⟩, notOwn.1]
      · rw [other k same, before k lower]
  · exact (yieldLost entry).trans (State.homeLost_leaving (noneHeld lost) (by simpa [u] using leaving))
  · exact (yieldLost entry).trans (State.homeLost_unclaimed (noneHeld lost) (by simpa [u] using joined)
      (by simpa [u, State.setEntry] using claim))
  · refine (yieldLost entry).trans ((State.homeLost_unsent (noneHeld lost) (by simpa [u] using joined)
      (by simpa [u, State.setEntry] using claim) (queued (by simp [u]) q)).trans ?_)
    rw [State.withoutClaim_congr (s := s) (by simp [u]) (by simp [u])]
  · refine (yieldLost entry).trans ((State.homeLost_announced (noneHeld lost) (by simpa [u] using joined)
      (by simpa [u, State.setEntry] using claim) (by simpa [u] using unqueued)).trans ?_)
    rw [State.post_sender]
    rfl
  · rw [bne] at left ⊢
    rw [claimLost entry, State.lossNotice_unsent (show u.sched.claim = _ from claim), if_pos (claiming.2 more),
      State.editClaim_keeps (s := u) (queued rfl q) left]
  · rw [claimLost entry, State.lossNotice_unsent (show u.sched.claim = _ from claim), if_neg (lost ∘ claiming.1),
      State.editClaim_drops (s := u) (queued rfl q) (by simp), State.claimLost_eq]
    simp only [show u.sched.claim = some ⟨.reservation lane, .unsent⟩ from claim]
    rfl
  · rw [claimLost entry, State.lossNotice_unsent (show u.sched.claim = _ from claim), if_neg (lost ∘ claiming.1),
      State.editClaim_drops (s := u) (queued rfl q) (by simp), State.claimLost_eq]
    simp only [show u.sched.claim = some ⟨.home, .unsent⟩ from claim]
    rfl
  · rw [claimLost entry, State.lossNotice_announced (show u.sched.claim = _ from claim), if_pos (claiming.2 more)]
  · rw [claimLost entry, State.lossNotice_announced (show u.sched.claim = _ from claim), if_neg (lost ∘ claiming.1),
      State.claimLost_eq]
    simp only [show u.sched.claim = some ⟨.reservation lane, .announced mark⟩ from claim]
  · rw [claimLost entry, State.lossNotice_announced (show u.sched.claim = _ from claim), if_neg (lost ∘ claiming.1),
      State.claimLost_eq]
    simp only [show u.sched.claim = some ⟨.home, .announced mark⟩ from claim]

end Sys2Proof.Proofs

/-!
PROOFS. The readback at the end of an own frame: of a DATA frame on the entry of its slot (R73, R74, R77), of a control
frame on the queue and on its purpose (R66, R71, R85 to R87), and the eighth failure in a row (R18, R38).
-/

namespace Sys2Proof.Machine

/-! ### The frame leaves the line -/

section
variable {s : State} {source : FrameSource} {bytes : List Byte} {readback : Readback} {differed : Bool}

theorem State.frameEnd_discarded (own : s.line.own = some ⟨source, bytes, readback, true⟩) :
    s.frameEnd differed = { s with line.own := none } := by
  simp [State.frameEnd, own]

theorem readback_clean (clean : ¬ (differed = true ∨ readback = .failed)) :
    (if differed = true then Readback.failed else readback) = .clean := by
  cases differed <;> cases readback <;> simp_all

theorem readback_failed (failed : differed = true ∨ readback = .failed) :
    (if differed = true then Readback.failed else readback) = .failed := by
  cases differed <;> cases readback <;> simp_all

variable (own : s.line.own = some ⟨source, bytes, readback, false⟩)
include own

theorem State.frameEnd_clean (clean : ¬ (differed = true ∨ readback = .failed)) :
    s.frameEnd differed
      = State.reportResult { s with line := { s.line with own := none, faultCount := 0 } } source .clean := by
  simp only [State.frameEnd, own, readback_clean clean]
  rfl

theorem State.frameEnd_failed (failed : differed = true ∨ readback = .failed) (below : s.line.faultCount < 7) :
    s.frameEnd differed = State.reportResult
      { s with line := { s.line with own := none, faultCount := s.line.faultCount + 1 } } source .failed := by
  simp only [State.frameEnd, own, readback_failed failed, below, if_true]
  rfl

theorem State.frameEnd_faults (failed : differed = true ∨ readback = .failed) (eighth : s.line.faultCount = 7) :
    s.frameEnd differed = State.enterFault { s with line.own := none } := by
  simp only [State.frameEnd, own, readback_failed failed, eighth, Nat.lt_irrefl, if_false]
  rfl

end

/-! ### A DATA frame -/

section
variable {s : State} {n : Nat} {b : Binding} {h : Bool}

theorem State.dataResult_other (r : Readback) (other : (s.entry n).isHeld = false) : s.dataResult n r = s := by
  unfold State.dataResult
  cases entry : s.entry n <;> simp_all [Entry.isHeld]

/-- The third failure in a row bars the slot (R77). -/
def State.barredSlot (s : State) (n : Nat) : State :=
  (s.setEntry n (.barred 16)).postAll [.slotLost n .abandoned, .duplicateSuspect n]

theorem State.dataResult_lost (entry : s.entry n = .ownHeld b h 2) :
    s.dataResult n .failed = if h then (s.barredSlot n).homeLost else s.barredSlot n := by
  simp only [State.dataResult, entry]
  rfl

theorem State.barredSlot_entry (used : n < s.sched.slots.length) (k : Nat) :
    (s.barredSlot n).entry k = if k = n then .barred 16 else s.entry k := by
  have same : (s.barredSlot n).entry k = (s.setEntry n (.barred 16)).entry k :=
    State.entry_congr (by simp [State.barredSlot]) k
  rw [same, s.entry_setEntry]
  by_cases at_n : k = n <;> simp [at_n, used]

end

/-! ### A control frame -/

/-- A claimed entry of an announced claim, with its settle count (R66). -/
def Entry.announced (e : Entry) : Entry :=
  match e with
  | .ownClaiming b h _ => .ownClaiming b h (some 4)
  | e => e

/-- Every listed slot that is still claimed carries the settle count. -/
theorem State.announce_entries (slots : List Nat) (s : State) :
    slots.foldl (fun s n => match s.entry n with
      | .ownClaiming b h _ => s.setEntry n (.ownClaiming b h (some 4))
      | _ => s) s
    = { s with sched.slots := s.sched.slots.mapIdx fun n e => if n ∈ slots then e.announced else e } := by
  have step : ∀ (t : State) (n : Nat), (match t.entry n with
      | .ownClaiming b h _ => t.setEntry n (.ownClaiming b h (some 4))
      | _ => t) = t.setEntry n (t.entry n).announced := fun t n => by
    have same : t.setEntry n (t.entry n) = t := by rw [State.setEntry, State.set_entry]
    cases entry : t.entry n with
    | ownClaiming => rfl
    | _ =>
      rw [entry] at same
      exact same.symm
  simp only [step]
  induction slots generalizing s with
  | nil => simp [List.mapIdx_eq_ofFn]
  | cons m slots ih =>
    rw [List.foldl_cons, ih]
    simp only [State.setEntry, State.entry]
    congr 2
    apply List.ext_getElem
    · simp
    · intro i h1 h2
      have inTable : i < s.sched.slots.length := by simpa using h1
      have twice : ∀ e : Entry, e.announced.announced = e.announced := fun e => by cases e <;> rfl
      simp only [List.getElem_mapIdx, List.getElem_set, List.mem_cons]
      by_cases same : m = i
      · subst same
        simp [inTable, twice]
      · simp [same, Ne.symm same]

theorem State.announce_eq {s : State} {kind : ClaimKind} (claim : s.sched.claim = some ⟨kind, .unsent⟩) (slots : List Nat) :
    s.announce slots = { s with
      sched := ⟨s.sched.slots.mapIdx fun n e => if n ∈ slots then e.announced else e, some ⟨kind, .announced true⟩⟩ } := by
  have entries := congrArg (fun t : State => { t with sched.claim := some ⟨kind, .announced true⟩ })
    (State.announce_entries slots s)
  simp only [State.announce, claim]
  exact entries

theorem State.dropHead_eq (s : State) : s.dropHead = { s with sender := s.withoutHead } := by
  unfold State.dropHead State.newHead State.withoutHead State.nextGenerator
  cases queue : s.sender.queue.tail <;> simp

/-- The move to OFFLINE empties the queue, whatever it held. -/
theorem State.offLink_sender (s : State) (o : OpenSender) (r : LeftReason) :
    State.offLink { s with sender := o } r = s.offLink r := by
  unfold State.offLink
  rw [State.post_eq, State.post_eq]
  rfl

/-- The eighth failure in a row, with every block's column (R38). -/
theorem State.enterFault_eq (s : State) : s.enterFault = State.postAll { s with
    line.faultCount := 8
    station := { s.station with life := .fault, listenCount := 0, restartMark := false, leaveCount := 0 }
    sched := ⟨s.sched.slots.map fun e => if e.isOwn then .free else e, none⟩
    sender := ⟨[], none, s.sender.generator⟩
    delivery := ⟨List.replicate 248 none, []⟩ }
    (.lineFault :: match s.sched.claim with | some c => c.lossEvents | none => []) := by
  have claim : (s.post .lineFault).sched.claim = s.sched.claim := by simp
  simp only [State.enterFault, claim]
  rw [State.postAll_eq, State.postAll_eq, State.post_eq]
  rfl

/-- A failed head below its sixth attempt widens its window (R86). -/
theorem State.controlFailed_retries {s : State} {a : Attempt} (attempt : s.sender.attempt = some a) (more : a.attempts < 5)
    (f : CtlFrame) : s.controlFailed f = { s with
      sender := ⟨s.sender.queue, some ⟨a.attempts + 1, retryWindow (a.attempts + 1),
        s.sender.generator % retryWindow (a.attempts + 1)⟩, s.nextGenerator⟩ } := by
  have below : a.attempts + 1 < 6 := by omega
  simp only [State.controlFailed, attempt, below, if_true]

/-- The head is abandoned, and what it was for with it (R87). -/
theorem State.controlFailed_abandons {s : State} {a : Attempt} (attempt : s.sender.attempt = some a) (last : 5 ≤ a.attempts)
    (f : CtlFrame) : s.controlFailed f =
      (let t := State.post { s with sender := s.withoutHead } (.controlAbandoned f.kind)
       match f.kind with
       | .claim => t.claimAbandoned
       | .release => t
       | .leave => t.offLink .controlAbandoned) := by
  have sixth : ¬ a.attempts + 1 < 6 := by omega
  simp only [State.controlFailed, attempt, sixth, if_false, State.dropHead_eq, State.moveOffline_eq] <;> rfl

theorem State.claimAbandoned_eq {s : State} {kind : ClaimKind} {phase : ClaimPhase}
    (claim : s.sched.claim = some ⟨kind, phase⟩) :
    s.claimAbandoned = match kind with
      | .reservation lane => State.post { s with sched := s.unclaimed } (.reserveDone lane 0)
      | .home => State.homePick { s with sched := s.unclaimed } := by
  have ended := s.endClaim_eq
  simp only [State.claimAbandoned, claim] at ended ⊢
  rw [ended]
  cases kind <;> rfl

end Sys2Proof.Machine

namespace Sys2Proof.Proofs

open Sys2Proof.Machine

/-- Settles O52. -/
theorem dataFrameResult : Obligations.DataFrameResult := by
  intro s differed n bytes readback discarded own failed clean bad barred
  have row : exec (.ownFrameEnd differed) s = .next (s.frameEnd differed) := exec_eq _ _
  have entryClean : clean.entry n = s.entry n := rfl
  have entryBad : ∀ k, bad.entry k = s.entry k := fun _ => rfl
  rw [row]
  have failedEnd : discarded = false → failed → s.line.faultCount < 7 → s.frameEnd differed = bad.dataResult n .failed :=
    fun kept fails below => by subst kept; exact State.frameEnd_failed own fails below
  have lostEnd : ∀ {b h}, discarded = false → failed → s.line.faultCount < 7 → s.entry n = .ownHeld b h 2 →
      s.frameEnd differed = if h then barred.homeLost else barred := fun kept fails below entry =>
    (failedEnd kept fails below).trans (State.dataResult_lost (s := bad) entry)
  have barredEntry : ∀ {b h r}, s.entry n = .ownHeld b h r → ∀ k, barred.entry k = if k = n then .barred 16 else s.entry k :=
    fun entry => State.barredSlot_entry (s := bad) (State.entry_lt (s := s) (by rw [entry]; nofun))
  have noneHeld : ∀ {b h r}, s.entry n = .ownHeld b h r → (∀ m, m ≠ n → (s.entry m).isHeld = false) →
      ∀ k, (barred.entry k).isHeld = false := fun entry none k => by
    rw [barredEntry entry k]
    split
    · rfl
    · exact none k ‹_›
  have station : barred.station = s.station := State.postAll_station _ _
  have sched : barred.sched.claim = s.sched.claim := by simp [barred, bad, State.setEntry]
  have sender : barred.sender = s.sender := by simp [barred, bad]
  refine ⟨fun gone => ?_, fun kept ok => ?_, fun kept fails below other => ?_, fun b h kept fails below entry => ?_,
    fun b h kept fails below entry => ?_, fun b kept fails below entry => ?_,
    fun b m c h q kept fails below entry ne held before => ?_, fun b kept fails below entry none => ⟨fun leaving => ?_,
    fun joined claim => ?_, fun lane before slots after joined claim queued => ?_, fun lane mark joined claim unqueued => ?_⟩⟩
  · subst gone
    rw [State.frameEnd_discarded own]
  · subst kept
    rw [State.frameEnd_clean own ok]
    change Host.Outcome.next (clean.dataResult n .clean) = _
    cases entry : s.entry n with
    | ownHeld b h r => simp only [State.dataResult, entryClean, entry]
    | _ => rw [State.dataResult_other _ (by rw [entryClean, entry]; rfl)]
  · rw [failedEnd kept fails below, State.dataResult_other (s := bad) _ other]
  · rw [failedEnd kept fails below]
    simp only [State.dataResult, entryBad, entry]
    rfl
  · rw [failedEnd kept fails below]
    simp only [State.dataResult, entryBad, entry]
    rfl
  · rw [lostEnd kept fails below entry]
    rfl
  · rw [lostEnd kept fails below entry, if_pos rfl, State.homeLost_passes (m := m) (c := c) (h := h) (q := q)]
    · rw [barredEntry entry, if_neg ne, held]
    · intro k lower
      rw [barredEntry entry]
      split
      · rfl
      · exact before k lower ‹_›
  · rw [lostEnd kept fails below entry, if_pos rfl, State.homeLost_leaving (noneHeld entry none) (by rw [station, leaving])]
  · rw [lostEnd kept fails below entry, if_pos rfl,
      State.homeLost_unclaimed (noneHeld entry none) (by rw [station, joined]) (by rw [sched, claim])]
  · rw [lostEnd kept fails below entry, if_pos rfl, State.homeLost_unsent (noneHeld entry none) (by rw [station, joined])
      (by rw [sched, claim]) (show barred.ClaimQueued before slots after from ⟨by rw [sender]; exact queued.1, queued.2⟩),
      State.withoutClaim_congr (s := s) sender (by rw [station])]
  · rw [lostEnd kept fails below entry, if_pos rfl, State.homeLost_announced (noneHeld entry none)
      (by rw [station, joined]) (by rw [sched, claim]) (by rwa [sender]), sender]

/-- Settles O53. -/
theorem controlFrameResult : Obligations.ControlFrameResult := by
  intro s differed f bytes readback failed clean bad g
  have row : exec (.ownFrameEnd differed) s = .next (s.frameEnd differed) := exec_eq _ _
  rw [row]
  refine ⟨fun own ok => ?_, fun a own fails below attempt more => ?_, fun a own fails below attempt last => ?_,
    fun own => ⟨fun ok => ?_, fun fails below => ?_⟩, fun replaced own => ?_⟩
  · have ends : s.frameEnd differed = clean.controlClean f := State.frameEnd_clean own ok
    rw [ends, State.controlClean, State.dropHead_eq]
    refine ⟨fun kind isClaim claim => ?_, fun isRelease => ?_, fun isLeave => ?_⟩
    · rw [isClaim]
      dsimp only
      rw [State.announce_eq (s := { clean with sender := clean.withoutHead }) (kind := kind) claim]
      have entries : (fun (n : Nat) (e : Entry) => if n ∈ f.slots then e.announced else e) = fun n e => match e with
          | .ownClaiming b h _ => if n ∈ f.slots then .ownClaiming b h (some 4) else e
          | e => e := by
        funext n e
        cases e with
        | ownClaiming => rfl
        | _ => exact ite_self _
      rw [entries]
      rfl
    · rw [isRelease]
      rfl
    · rw [isLeave]
      dsimp only
      rw [State.moveOffline_eq, State.offLink_sender]
  · intro window
    have ends : s.frameEnd differed = bad.controlFailed f := State.frameEnd_failed own fails below
    have wide : retryWindow (a.attempts + 1) = window := by
      unfold retryWindow
      match tries : a.attempts with
      | 0 | 1 | k + 2 => simp [window, tries]
    rw [ends, State.controlFailed_retries (s := bad) attempt more, wide]
    rfl
  · intro gone
    have ends : s.frameEnd differed = match f.kind with
        | .claim => gone.claimAbandoned
        | .release => gone
        | .leave => gone.offLink .controlAbandoned :=
      (State.frameEnd_failed own fails below).trans (State.controlFailed_abandons (s := bad) attempt last f)
    have claim : ∀ kind phase, s.sched.claim = some ⟨kind, phase⟩ → gone.sched.claim = some ⟨kind, phase⟩ :=
      fun kind phase h => by simpa [gone, bad] using h
    have unclaimed : gone.unclaimed = s.unclaimed := by simp [State.unclaimed, gone, bad]
    refine ⟨fun lane phase isClaim h => ?_, fun phase isClaim h => ?_, fun isRelease => ?_, fun isLeave => ?_⟩
    · simp only [ends, isClaim]
      rw [State.claimAbandoned_eq (claim _ _ h), unclaimed]
    · simp only [ends, isClaim]
      rw [State.claimAbandoned_eq (claim _ _ h), unclaimed]
    · simp only [ends, isRelease]
    · simp only [ends, isLeave]
  · rw [State.frameEnd_clean own ok]; rfl
  · rw [State.frameEnd_failed own fails below]; rfl
  · rw [State.frameEnd_discarded own]

/-- Settles O54. -/
theorem eighthFailureFaults : Obligations.EighthFailureFaults := by
  intro s differed source bytes readback own failed eighth
  have events : (match s.sched.claim with | some c => c.lossEvents | none => []) =
      match s.sched.claim with
        | some ⟨.reservation lane, _⟩ => [Event.reserveDone lane 0]
        | _ => [] := by
    cases s.sched.claim with
    | none => rfl
    | some c => obtain ⟨_ | _, _⟩ := c <;> rfl
  rw [exec_eq, State.after, State.frameEnd_faults own failed eighth, State.enterFault_eq]
  simp only [events] <;> rfl

end Sys2Proof.Proofs

/-!
PROOFS. The absence of a peer in its four blocks (R54, R97, R98, R135), and its halts with the fallback of the reference
(R26, R110).
-/

namespace Sys2Proof.Machine

/-! ### Halts -/

theorem State.lane_ready_lt {s : State} {l : Nat} (ready : (s.lane l).ready = true) : l < s.tx.lanes.length := by
  by_contra past
  simp [State.lane, Nat.not_lt.1 past, TxLane.ready] at ready

/-- These lanes halted for one reason. -/
def State.withHalts (s : State) (ls : List Nat) (r : HaltReason) : State :=
  { s with tx.lanes := s.tx.lanes.mapIdx fun l t => if l ∈ ls then { t with halt := some r } else t }

/-- READY lanes, each once, halt with an event each. -/
theorem State.foldl_haltLane (r : HaltReason) (ls : List Nat) (s : State) (once : ls.Nodup)
    (ready : ∀ l ∈ ls, (s.lane l).ready = true) :
    ls.foldl (fun s l => s.haltLane l r) s = (s.withHalts ls r).postAll (ls.map fun l => .laneHalted l r) := by
  induction ls generalizing s with
  | nil => simp [State.withHalts, State.postAll, List.mapIdx_eq_ofFn]
  | cons l ls ih =>
    obtain ⟨fresh, once⟩ := List.nodup_cons.1 once
    have readyHead := ready l (by simp)
    have inLanes := State.lane_ready_lt readyHead
    have head : s.haltLane l r = (s.setLane l { s.lane l with halt := some r }).post (.laneHalted l r) := by
      rw [State.haltLane, if_pos readyHead]
    have readyTail : ∀ k ∈ ls, ((s.haltLane l r).lane k).ready = true := fun k mem => by
      have lane : (s.haltLane l r).lane k = (s.setLane l { s.lane l with halt := some r }).lane k := by
        simp only [State.lane, head, State.post_tx]
      rw [lane, State.lane_setLane_ne _ _ fun same : k = l => fresh (same ▸ mem)]
      exact ready k (by simp [mem])
    have halts : (s.haltLane l r).withHalts ls r = (s.withHalts (l :: ls) r).post (.laneHalted l r) := by
      rw [head, State.post_eq, State.post_eq]
      simp only [State.withHalts, State.setLane, State.lane]
      congr 2
      apply List.ext_getElem
      · simp
      · intro i h1 h2
        by_cases same : l = i
        · subst same
          simp [fresh, inLanes]
        · simp [same, Ne.symm same]
    rw [List.foldl_cons, ih _ once readyTail, halts]
    rfl

/-- The lane halts at an absence of this peer (R98). -/
def TxLane.haltsFor (p : Nat) (t : TxLane) : Bool := t.ready && t.isTo p

theorem State.lanesTo_eq (s : State) (p : Nat) : s.lanesTo p = [0, 1, 2, 3].filter fun l => (s.lane l).haltsFor p := rfl

/-- An absence halts the READY lanes to the peer, with an event each in ascending order (R98). -/
theorem State.haltLanesTo_eq {s : State} (four : s.tx.lanes.length = 4) (p : Nat) :
    s.haltLanesTo p = State.postAll
      { s with tx.lanes := s.tx.lanes.map fun t => if t.haltsFor p then { t with halt := some .absent } else t }
      (([0, 1, 2, 3].filter fun l => (s.lane l).haltsFor p).map fun l => .laneHalted l .absent) := by
  have ready : ∀ l ∈ s.lanesTo p, (s.lane l).ready = true := fun l mem => by
    rw [State.lanesTo_eq, List.mem_filter, TxLane.haltsFor, Bool.and_eq_true] at mem
    exact mem.2.1
  have once : (s.lanesTo p).Nodup := List.Nodup.filter _ (by decide)
  have lanes : (s.tx.lanes.mapIdx fun l t => if l ∈ s.lanesTo p then { t with halt := some HaltReason.absent } else t)
      = s.tx.lanes.map fun t => if t.haltsFor p then { t with halt := some .absent } else t := by
    apply List.ext_getElem
    · simp
    · intro i h1 h2
      have inLanes : i < s.tx.lanes.length := by simpa using h1
      have mem : i ∈ s.lanesTo p ↔ (s.tx.lanes[i]).haltsFor p = true := by
        rw [State.lanesTo_eq, List.mem_filter, mem_fourLanes, ← four, and_iff_right inLanes]
        simp [State.lane, inLanes]
      simp only [List.getElem_mapIdx, List.getElem_map, mem]
  rw [← lanes, ← State.lanesTo_eq]
  exact State.foldl_haltLane _ _ s once ready

/-! ### The notice -/

/-- The four contexts of a peer are struck off (R135). -/
theorem strike_contexts (cs : List (Option Seq)) (p : Nat) :
    [0, 1, 2, 3].foldl (fun cs c => cs.set (contextIndex p c) none) cs
      = cs.mapIdx fun i c => if i / 4 = p - 1 then none else c := by
  apply List.ext_getElem
  · simp
  · intro i h1 h2
    simp only [List.foldl_cons, List.foldl_nil, List.getElem_set, List.getElem_mapIdx, contextIndex]
    by_cases here : i / 4 = p - 1
    · rw [if_pos here]
      have cases4 : i = (p - 1) * 4 + 0 ∨ i = (p - 1) * 4 + 1 ∨ i = (p - 1) * 4 + 2 ∨ i = (p - 1) * 4 + 3 := by omega
      split_ifs <;> first | rfl | omega
    · rw [if_neg here]
      split_ifs <;> first | rfl | omega

/-- What an absence takes of the schedule and the delivery unit (R54, R135). -/
def State.withoutPeer (s : State) (p : Nat) : State :=
  { s with
    sched.slots := s.sched.slots.map fun e => if e.peer? = some p then .free else e
    delivery := ⟨s.delivery.contexts.mapIdx fun i c => if i / 4 = p - 1 then none else c,
      s.delivery.owed.filter fun a => a.station != p⟩ }

theorem State.absenceNotice_eq (s : State) (p : Nat) : s.absenceNotice p =
    if s.timer.reference = p then
      (s.withoutPeer p).eitherOrder Config.fallbackFirst State.fallBack (fun s => s.haltLanesTo p)
    else (s.withoutPeer p).haltLanesTo p := by
  have taken : { s.freeEntries (fun e => e.peer? == some p) with
      delivery.contexts := [0, 1, 2, 3].foldl (fun cs c => cs.set (contextIndex p c) none) s.delivery.contexts
      delivery.owed := s.delivery.owed.filter (·.station != p) } = s.withoutPeer p := by
    rw [strike_contexts]
    have freed : Entry.freeIf (fun e => e.peer? == some p) = fun e => if e.peer? = some p then .free else e := by
      funext e
      unfold Entry.freeIf
      by_cases same : e.peer? = some p <;> simp [same]
    simp only [State.withoutPeer, State.freeEntries, freed]
  simp only [State.absenceNotice]
  rw [← taken]
  by_cases same : s.timer.reference = p
  · rw [if_pos same, if_pos (by simp [same])]
    rfl
  · rw [if_neg same, if_neg (by simp [same])]
    rfl

/-! ### The absence that is due -/

theorem State.nextAbsence_eq (s : State) : s.nextAbsence = s.timer.due.findSome? Due.absentPeer := by
  unfold State.nextAbsence
  refine congrArg (List.findSome? · s.timer.due) (funext fun d => ?_)
  cases d <;> rfl

theorem State.nextAbsence_mem {s : State} {p : Nat} (next : s.nextAbsence = some p) : .absence p ∈ s.timer.due := by
  rw [State.nextAbsence_eq] at next
  obtain ⟨d, mem, found⟩ := List.exists_of_findSome?_eq_some next
  rwa [← (d.absentPeer_eq_some p).1 found]

/-- The row takes the lowest address due (log entry 21). -/
theorem State.nextAbsence_lowest {s : State} {p : Nat} (next : s.nextAbsence = some p)
    (ascending : s.timer.absencesDue.Pairwise (· < ·)) {a : Nat} (due : .absence a ∈ s.timer.due) : p ≤ a := by
  rw [State.nextAbsence_eq, ← List.head?_filterMap, ← CycleTimer.absencesDue_eq] at next
  have mem : a ∈ s.timer.absencesDue := by
    rw [CycleTimer.absencesDue_eq, List.mem_filterMap]
    exact ⟨_, due, rfl⟩
  obtain ⟨rest, list⟩ : ∃ rest, s.timer.absencesDue = p :: rest := by
    cases list : s.timer.absencesDue with
    | nil => rw [list] at next; cases next
    | cons b rest => rw [list] at next; obtain rfl := Option.some.inj next; exact ⟨rest, rfl⟩
  rw [list] at mem ascending
  obtain rfl | mem := List.mem_cons.1 mem
  · exact Nat.le_refl _
  · exact Nat.le_of_lt ((List.pairwise_cons.1 ascending).1 a mem)

/-- A peer not heard for 16 cycles becomes ABSENT, with its notice (R97). -/
theorem State.peerStep_absent {s : State} {p : Nat} (one : 1 ≤ p) (other : p ≠ s.station.address)
    (present : (s.peer p).present = true) (last : 15 ≤ (s.peer p).silence) :
    s.peerStep p = State.absenceNotice
      (State.post { s with peers := s.peers.set (p - 1) ⟨false, 16, (s.peer p).mismatch⟩ } (.peerDown p)) p := by
  have runsOut : ¬ (s.peer p).silence + 1 < 16 := by omega
  have counts : ((s.peer p).present && p != s.station.address) = true := by simp [present, other]
  simp only [State.peerStep]
  rw [if_pos counts, if_neg runsOut, State.setPeer, if_pos one]

end Sys2Proof.Machine

namespace Sys2Proof.Proofs

open Sys2Proof.Machine

/-- Settles O43. -/
theorem peerAbsenceTaken : Obligations.PeerAbsenceTaken := by
  intro s p active four one other next present last halts u down halted changed
  have row : exec .peerAbsence s = .next (s.takeDue (.absence p)) := by
    rw [exec_eq, State.after, State.ifActive_active active, State.absenceNext, next]
  let taken : State := { s with timer.due := s.timer.due.erase (.absence p) }
  let gone : State := { taken with peers := s.peers.set (p - 1) ⟨false, 16, (s.peer p).mismatch⟩ }
  have step : s.takeDue (.absence p) = (gone.post (.peerDown p)).absenceNotice p :=
    (State.takeDue_mem (State.nextAbsence_mem next)).trans (State.peerStep_absent (s := taken) one other present last)
  have halts_eq : ∀ t : TxLane, t.haltsFor p = halts t := fun t => by
    obtain ⟨config, halt, _, _, _, _, _⟩ := t
    cases config with
    | none => rfl
    | some c =>
      by_cases same : c.destination = p
      · cases halt <;> simp [TxLane.haltsFor, TxLane.ready, TxLane.isTo, halts, same]
      · have apart : (c.destination == p) = false := by simpa using same
        simp [TxLane.haltsFor, TxLane.isTo, halts, apart]
  -- The halts, from any state with the lanes, the cycle number and the events of the notice.
  have halted_from : ∀ v : State, v.tx = s.tx → v.haltLanesTo p = State.postAll { v with tx.lanes := u.tx.lanes } halted :=
    fun v tx => by
      have lane : ∀ l, v.lane l = s.lane l := fun l => by simp only [State.lane, tx]
      rw [State.haltLanesTo_eq (by rw [tx, four])]
      simp only [halts_eq, lane, tx]
      rfl
  let notice := State.withoutPeer (gone.post (.peerDown p)) p
  have notice_eq : notice = { u.post (.peerDown p) with tx := s.tx } := by
    simp only [notice, State.withoutPeer]
    rw [State.post_eq, State.post_eq]
  have notice_lanes : { notice with tx.lanes := u.tx.lanes } = u.post (.peerDown p) := by
    rw [notice_eq, State.post_eq]
  have reference : (gone.post (.peerDown p)).timer.reference = s.timer.reference := by simp [gone, taken]
  have tx : notice.tx = s.tx := by rw [notice_eq]
  have station : notice.station = s.station := by rw [notice_eq, State.post_eq]
  have halted_last : notice.haltLanesTo p = u.postAll (down ++ halted) := by
    rw [halted_from notice tx, notice_lanes]
    rfl
  rw [row, step, State.absenceNotice_eq]
  refine ⟨fun ascending => ⟨State.nextAbsence_mem next, fun a due => State.nextAbsence_lowest next ascending due⟩,
    fun elsewhere => ?_, fun same listening => ?_, fun same known => ?_⟩
  · rw [reference, if_neg elsewhere]
    exact congrArg _ halted_last
  · have fell : ∀ v : State, v.station = s.station → v.fallBack = { v with timer.reference := s.station.address } :=
      fun v station => by rw [State.fallBack_eq, station, if_pos listening]
    have first : (notice.fallBack).haltLanesTo p
        = State.postAll { u with timer.reference := s.station.address } (down ++ halted) := by
      rw [fell notice station, halted_from { notice with timer.reference := s.station.address } tx, notice_eq]
      simp only [State.postAll_eq, State.post_eq]
      rfl
    have second : (notice.haltLanesTo p).fallBack
        = State.postAll { u with timer.reference := s.station.address } (down ++ halted) := by
      rw [halted_last, fell (u.postAll (down ++ halted)) (State.postAll_station u _), State.postAll_eq, State.postAll_eq]
    rw [reference, if_pos same]
    exact congrArg _ ((State.eitherOrder_agree (first.trans second.symm)).trans first)
  · have fell : ∀ v : State, v.station = s.station → v.fallBack
        = State.post { v with timer.reference := s.station.address } (.referenceChanged s.station.address false) :=
      fun v station => by rw [State.fallBack_eq, station, if_neg known]
    rw [reference, if_pos same]
    obtain ⟨reads, order⟩ | ⟨reads, order⟩ :=
      State.eitherOrder_cases Config.fallbackFirst State.fallBack (fun s => s.haltLanesTo p) notice
    · refine ⟨_, List.mem_cons_self, reads, congrArg _ (order.trans ?_)⟩
      dsimp only
      rw [fell notice station, halted_from (State.post { notice with timer.reference := s.station.address }
        (.referenceChanged s.station.address false)) ((State.post_tx _ _).trans tx), notice_eq]
      simp only [State.postAll_eq, State.post_eq, HostPort.postedAll_append]
      rfl
    · refine ⟨_, List.mem_cons_of_mem _ List.mem_cons_self, reads, congrArg _ (order.trans ?_)⟩
      dsimp only
      rw [halted_last, fell (u.postAll (down ++ halted)) (State.postAll_station u _)]
      simp only [State.postAll_eq, State.post_eq, HostPort.postedAll_append]
      rfl

end Sys2Proof.Proofs

/-!
PROOFS. Own frames: what a slot start offers in a held slot (R119 to R123, R134, R140) and in an open slot (R85), and
what becomes of a frame heard that ends there (R10).
-/

namespace Sys2Proof.Machine

/-! ### A slot start -/

section
variable {s : State}

theorem State.SlotStarts.at (starts : s.SlotStarts) : s.atSlotStart = true := by
  obtain ⟨active, starting, silent⟩ := starts
  simp [State.atSlotStart, active, starting, silent]

/-- An offer that begins no own frame leaves a frame under way to be taken behind the start (R10). -/
theorem State.startWith_quiet {u : State} {offer : State → State} (offered : offer s.markStart = u)
    (running : u.timer.phase = .running) (stopped : s.transmitsIn s.timer.position = true → u = s.markStart) :
    Host.Outcome.next (s.startWith offer) = s.silentStart u := by
  unfold State.startWith State.silentStart
  cases s.line.atStart with
  | none => exact congrArg _ offered
  | some frame =>
    cases frame with
    | taken =>
      dsimp only
      split
      · rw [stopped ‹_›]
      · rw [offered]
    | underWay bytes =>
      dsimp only
      rw [offered, exec_eq, State.after, State.takeUnderWay_eq running]

/-- An own frame that begins discards a frame under way (R10). -/
theorem State.startWith_sends {u : State} {offer : State → State} (offered : offer s.markStart = u)
    (sends : u.line.own.isSome = true) (untaken : s.line.atStart ≠ some .taken) : s.startWith offer = u := by
  unfold State.startWith
  split
  · exact offered
  · exact absurd ‹_› untaken
  · rw [offered, State.takeUnderWay_sending _ sends]

/-- The frame on the line with the header of the slot that starts, after an offer that leaves station and timer. -/
theorem State.beginFrame_eq {u : State} {code : CycleCode} (configured : s.station.code = some code)
    (station : u.station = s.station) (timer : u.timer = s.markStart.timer) (source : FrameSource) (body : FrameBody) :
    u.beginFrame source body = { u with line := { u.line with
      own := some ⟨source, Frame.bytes ⟨s.headerWith code, body⟩, .clean, false⟩, sentInSlot := true } } := by
  have header : u.ownHeader = s.headerWith code := by
    simp [State.ownHeader, State.markStart, State.headerWith, configured, station, timer]
  rw [State.beginFrame, header]

theorem State.sendData_eq {u : State} {code : CycleCode} (configured : s.station.code = some code)
    (station : u.station = s.station) (timer : u.timer = s.markStart.timer) (packet : Option Packet) :
    u.sendData packet = { u with
      delivery.owed := u.delivery.owed.drop 3
      line := { u.line with
        own := some ⟨.data s.timer.position,
          Frame.bytes ⟨s.headerWith code, .data (u.delivery.owed.take 3) packet⟩, .clean, false⟩
        sentInSlot := true } } := by
  have slot : u.timer.position = s.timer.position := by rw [timer]; rfl
  simp only [State.sendData]
  rw [State.beginFrame_eq (u := { u with delivery.owed := u.delivery.owed.drop 3 }) configured station timer, slot]

theorem State.scheduled_eq {code : CycleCode} (configured : s.station.code = some code) : s.scheduled = code.scheduled := by
  simp only [State.scheduled, configured]

theorem exec_scheduledSlotStart {code : CycleCode} (starts : s.SlotStarts) (configured : s.station.code = some code)
    (inside : s.timer.position < code.scheduled) : exec .scheduledSlotStart s = .next (s.startWith State.offerData) := by
  rw [exec_eq, State.after, State.scheduledStart, if_pos]
  rw [starts.at, s.scheduled_eq configured]
  simpa using inside

theorem exec_openSlotStart {code : CycleCode} (starts : s.SlotStarts) (configured : s.station.code = some code)
    (behind : code.scheduled ≤ s.timer.position) : exec .openSlotStart s = .next (s.startWith State.offerControl) := by
  rw [exec_eq, State.after, State.openStart, if_pos]
  rw [starts.at, s.scheduled_eq configured]
  simpa using behind

end

/-! ### The position a lane sends -/

theorem TxLane.pick_iff (t : TxLane) (i : Nat) : t.pick = some i ↔ ∃ p, t.Chooses i p := by
  have before : ∀ (test : Position → Bool) (k : Nat), t.positions.findIdx? test = some k ↔
      ∃ p, t.positions[k]? = some p ∧ test p = true ∧ ∀ q ∈ t.positions.take k, test q = false := fun test k => by
    rw [List.findIdx?_eq_some_iff_getElem]
    constructor
    · rintro ⟨inLane, holds, first⟩
      refine ⟨_, List.getElem?_eq_getElem inLane, holds, fun q mem => ?_⟩
      obtain ⟨j, hj, rfl⟩ := List.mem_take_iff_getElem.1 mem
      simpa using first j (by omega)
    · rintro ⟨p, at_k, holds, first⟩
      obtain ⟨inLane, rfl⟩ := List.getElem?_eq_some_iff.1 at_k
      refine ⟨inLane, holds, fun j lower => ?_⟩
      simpa using first _ (List.mem_take_iff_getElem.2 ⟨j, by omega, rfl⟩)
  have committed : ∀ q : Position, q.isCommitted = true ↔ q.phase = .committed := fun q => by simp [Position.isCommitted]
  unfold TxLane.pick TxLane.Chooses
  cases eligible : t.positions.findIdx? Position.isEligible with
  | some j =>
    obtain ⟨p, at_j, holds, first⟩ := (before _ _).1 eligible
    have mem : p ∈ t.positions := List.mem_of_getElem? at_j
    constructor
    · rintro same
      obtain rfl := Option.some.inj same
      exact ⟨p, at_j, .inl ⟨holds, first⟩⟩
    · rintro ⟨q, at_i, ⟨holds', first'⟩ | ⟨-, none, -⟩⟩
      · rw [← (before _ i).2 ⟨q, at_i, holds', first'⟩, eligible]
      · rw [none p mem] at holds; cases holds
  | none =>
    rw [List.findIdx?_eq_none_iff] at eligible
    dsimp only
    rw [before]
    refine exists_congr fun p => and_congr_right fun at_i => ?_
    have mem : p ∈ t.positions := List.mem_of_getElem? at_i
    rw [committed]
    constructor
    · rintro ⟨isCommitted, first⟩
      exact .inr ⟨isCommitted, eligible, fun q mem hq => by
        have := first q mem
        rw [(committed q).2 hq] at this
        cases this⟩
    · rintro (⟨holds, -⟩ | ⟨isCommitted, -, first⟩)
      · rw [eligible p mem] at holds; cases holds
      · exact ⟨isCommitted, fun q mem => Bool.eq_false_iff.2 fun h => first q mem ((committed q).1 h)⟩

theorem State.eligible_iff (s : State) (l : Nat) : s.eligible l = true ↔ ∃ c i p, (s.lane l).config = some c
    ∧ (s.lane l).halt = none ∧ (s.lane l).busyHold = 0 ∧ (c.destination = 63 ∨ s.isPresentPeer c.destination = true)
    ∧ (s.lane l).Chooses i p := by
  cases config : (s.lane l).config with
  | none => simp [State.eligible, TxLane.ready, config]
  | some c =>
    have picks : (s.lane l).pick.isSome = true ↔ ∃ i p, (s.lane l).Chooses i p := by
      rw [Option.isSome_iff_exists]
      exact exists_congr fun i => TxLane.pick_iff _ i
    have reads : s.eligible l = ((s.lane l).ready && (s.lane l).busyHold == 0 && (s.lane l).pick.isSome
        && (c.destination == 63 || s.isPresentPeer c.destination)) := by
      simp only [State.eligible, config]
    rw [reads]
    simp only [Bool.and_eq_true, TxLane.ready_iff, config, beq_iff_eq, Bool.or_eq_true, picks]
    constructor
    · rintro ⟨⟨⟨⟨-, halt⟩, hold⟩, ⟨i, p, chooses⟩⟩, reach⟩
      exact ⟨c, i, p, rfl, halt, hold, reach, chooses⟩
    · rintro ⟨c', i, p, same, halt, hold, reach, chooses⟩
      obtain rfl := Option.some.inj same
      exact ⟨⟨⟨⟨nofun, halt⟩, hold⟩, ⟨i, p, chooses⟩⟩, reach⟩

theorem State.eligible_congr {s t : State} (tx : t.tx.lanes = s.tx.lanes) (station : t.station = s.station)
    (peers : t.peers = s.peers) (l : Nat) : t.eligible l = s.eligible l := by
  simp only [State.eligible, State.lane, State.isPresentPeer, State.peer, tx, station, peers]

/-! ### The slot server -/

theorem State.serveShared_fill {s : State} (idle : ∀ l, s.eligible l = false) : s.serveShared = s.sendData none := by
  have found : s.sharedOrder.find? s.eligible = none := by
    rw [List.find?_eq_none]
    exact fun l _ => by rw [idle]; exact Bool.false_ne_true
  simp only [State.serveShared, found]

theorem State.serveSlot_leaving {s : State} (b : Binding) (leaving : s.station.life = .leaving) :
    s.serveSlot b = s.sendData none := by
  simp only [State.serveSlot, leaving, beq_self_eq_true, if_true]

section
variable {s : State} (joined : s.station.life = .joined)
include joined

theorem State.serveSlot_joined (b : Binding) : s.serveSlot b = match b with
    | .lane l => if s.eligible l then s.serveLane l else s.serveShared
    | .shared => s.serveShared := by
  unfold State.serveSlot
  rw [joined]
  exact if_neg (by decide)

/-- A shared slot, or one of a lane that is not eligible, is served in the shared order (R122). -/
theorem State.serveSlot_shared {b : Binding} (open' : b = .shared ∨ ∃ k, b = .lane k ∧ s.eligible k = false) :
    s.serveSlot b = s.serveShared := by
  rw [State.serveSlot_joined joined]
  obtain rfl | ⟨k, rfl, idle⟩ := open'
  · rfl
  · exact if_neg (Bool.eq_false_iff.1 idle)

end

/-- The first eligible lane in the shared order is served and recorded (R122). -/
theorem State.serveShared_first {s : State} {l : Nat} (first : s.FirstShared l) :
    s.serveShared = State.serveLane { s with tx.lastShared := l } l := by
  obtain ⟨d, inOrder, rfl, eligible, before⟩ := first
  have place : ∀ k < 4, s.sharedOrder[k]? = some ((s.tx.lastShared + 1 + k) % 4) := fun k hk => by
    match k, hk with
    | 0, _ | 1, _ | 2, _ | 3, _ => rfl
  have found : s.sharedOrder.find? s.eligible = some ((s.tx.lastShared + 1 + d) % 4) := by
    rw [List.find?_eq_some_iff_getElem]
    obtain ⟨bound, at_d⟩ := List.getElem?_eq_some_iff.1 (place d inOrder)
    refine ⟨eligible, d, bound, at_d, fun k lower => ?_⟩
    obtain ⟨_, at_k⟩ := List.getElem?_eq_some_iff.1 (place k (by omega))
    rw [at_k, before k lower]
    rfl
  simp only [State.serveShared, found]

theorem State.serveLane_eq {s : State} {l i : Nat} {c : LaneConfig} {p : Position} (config : (s.lane l).config = some c)
    (chooses : (s.lane l).Chooses i p) :
    s.serveLane l = (s.setLane l ((s.lane l).send c i p s.timer.cycle).2).sendData
      (some ((s.lane l).send c i p s.timer.cycle).1) := by
  simp only [State.serveLane, config, (TxLane.pick_iff _ i).2 ⟨p, chooses⟩, chooses.1]

/-- What a lane sends, and the lane behind it (R119, R120, R123, R140). -/
theorem TxLane.send_eq (t : TxLane) (c : LaneConfig) (i : Nat) (p : Position) (cycle : CycleNum) :
    t.send c i p cycle =
      (let start := t.armed || (match p.phase with
        | .sent st _ _ _ => st
        | _ => false)
      let retries := match p.phase with
        | .sent _ r _ _ => r + 1
        | _ => 0
      let seq := p.seq.getD t.nextSeq
      (⟨c.destination, c.channel, seq, start, p.payload⟩,
        { t with
          positions :=
            if c.destination = 63 then t.positions.eraseIdx i
            else t.positions.set i ⟨p.payload, some seq, .sent start retries (cycle + 4) false⟩
          nextSeq := if p.seq = none then t.nextSeq + 1 else t.nextSeq
          armed := false })) := by
  obtain ⟨payload, seq, phase⟩ := p
  have broadcast : (c.destination == 63) = true ↔ c.destination = 63 := beq_iff_eq
  cases seq <;> cases phase <;> simp only [TxLane.send, broadcast] <;> rfl

/-! ### The open-slot sender -/

section
variable {v : State} {f : CtlFrame} {rest : List CtlFrame} {a : Attempt}

theorem State.offerControl_idle (idle : v.sendsControl = false ∨ v.sender.queue = []) : v.offerControl = v := by
  unfold State.offerControl
  split
  · rename_i sends queue attempt
    obtain off | empty := idle
    · rw [off] at sends; cases sends
    · rw [empty] at queue; cases queue
  · rfl

variable (sends : v.sendsControl = true) (queue : v.sender.queue = f :: rest) (attempt : v.sender.attempt = some a)
include sends queue attempt

theorem State.offerControl_eq : v.offerControl =
    if f.kind == .claim && v.timer.relearnHold != 0 then v
    else if a.backoff == 0 then v.beginFrame (.control f false) f.body
    else { v with sender.attempt := some { a with backoff := a.backoff - 1 } } := by
  simp only [State.offerControl, sends, queue, attempt]

/-- A relearn hold stops a CLAIM (R25). -/
theorem State.offerControl_held (claim : f.kind = .claim) (hold : v.timer.relearnHold ≠ 0) : v.offerControl = v := by
  rw [State.offerControl_eq sends queue attempt, if_pos (by simp [claim, hold])]

variable (unstopped : f.kind ≠ .claim ∨ v.timer.relearnHold = 0)
include unstopped

theorem State.offerControl_goes (due : a.backoff = 0) : v.offerControl = v.beginFrame (.control f false) f.body := by
  have free : ¬ (f.kind == .claim && v.timer.relearnHold != 0) = true := by
    obtain other | none := unstopped
    · simp [other]
    · simp [none]
  rw [State.offerControl_eq sends queue attempt, if_neg free, if_pos (by simp [due])]

theorem State.offerControl_waits (early : a.backoff ≠ 0) :
    v.offerControl = { v with sender.attempt := some ⟨a.attempts, a.window, a.backoff - 1⟩ } := by
  have free : ¬ (f.kind == .claim && v.timer.relearnHold != 0) = true := by
    obtain other | none := unstopped
    · simp [other]
    · simp [none]
  rw [State.offerControl_eq sends queue attempt, if_neg free, if_neg (by simp [early])]

end

end Sys2Proof.Machine

namespace Sys2Proof.Proofs

open Sys2Proof.Machine

/-- Settles O49. -/
theorem heldSlotFilled : Obligations.HeldSlotFilled := by
  intro s code starts configured inside
  have row := exec_scheduledSlotStart starts configured inside
  have entry : s.markStart.entry s.timer.position = s.entry s.timer.position := rfl
  have eligible : ∀ l, s.markStart.eligible l = s.eligible l := fun _ => rfl
  have idle : ((s.entry s.timer.position).isHeld = false ∨ s.station.life ∉ [.joined, .leaving]) →
      s.markStart.offerData = s.markStart := fun cannot => by
    unfold State.offerData
    change (match s.entry s.timer.position with
      | .ownHeld b _ _ => if s.markStart.serves = true then s.markStart.serveSlot b else s.markStart
      | _ => s.markStart) = _
    cases held : s.entry s.timer.position with
    | ownHeld b h r =>
      obtain notHeld | off := cannot
      · rw [held] at notHeld; cases notHeld
      · exact if_neg fun serves => off ((s.markStart.serves_iff).1 serves)
    | _ => rfl
  refine ⟨fun cannot => ?_, fun taken => ?_, fun held untaken fill => ?_, fun l => s.eligible_iff l⟩
  · rw [row]
    exact State.startWith_quiet (idle cannot) rfl fun _ => rfl
  · rw [row, State.startWith_taken _ taken]
    split
    · rfl
    · rename_i silent
      have cannot : (s.entry s.timer.position).isHeld = false ∨ s.station.life ∉ [.joined, .leaving] := by
        have used : s.timer.position < s.scheduled := by rwa [s.scheduled_eq configured]
        rw [State.transmitsIn, if_pos used, Bool.and_eq_true, s.serves_iff] at silent
        by_cases held : (s.entry s.timer.position).isHeld = true
        · exact .inr fun life => silent ⟨held, life⟩
        · exact .inl (by simpa using held)
      rw [idle cannot]
      rfl
  · cases entry' : s.entry s.timer.position with
    | ownHeld b h r =>
      have serves : s.markStart.serves = true := (s.markStart.serves_iff).2 (by
        obtain leaving | ⟨joined, -⟩ := fill
        · exact leaving ▸ by simp
        · exact joined ▸ by simp)
      have offered : s.markStart.offerData = s.markStart.sendData none := by
        have served : s.markStart.offerData = s.markStart.serveSlot b := by
          unfold State.offerData
          rw [show s.markStart.entry s.markStart.timer.position = .ownHeld b h r from entry']
          exact if_pos serves
        rw [served]
        obtain leaving | ⟨joined, idle⟩ := fill
        · exact State.serveSlot_leaving b leaving
        · have open' : b = .shared ∨ ∃ k, b = .lane k ∧ s.markStart.eligible k = false := by
            cases b with
            | lane l => exact .inr ⟨l, rfl, idle l⟩
            | shared => exact .inl rfl
          exact (State.serveSlot_shared (s := s.markStart) joined open').trans (State.serveShared_fill (s := s.markStart) idle)
      rw [row, State.startWith_sends offered rfl untaken]
      rw [State.sendData_eq (s := s) (u := s.markStart) configured rfl rfl]
      rfl
    | _ => rw [entry'] at held; cases held

/-- Settles O50. -/
theorem packetSent : Obligations.PacketSent := by
  intro s code b home round l i c p starts configured inside joined held untaken config eligible chooses t start retries seq
    sent after
  have row := exec_scheduledSlotStart starts configured inside
  have sends : t.send c i p s.timer.cycle = (⟨c.destination, c.channel, seq, start, p.payload⟩, sent) :=
    t.send_eq c i p s.timer.cycle
  -- The lane served, from the slot start with the record of the shared order set.
  have served : ∀ k, State.serveLane { s.markStart with tx.lastShared := k } l = after k := fun k => by
    rw [State.serveLane_eq (s := { s.markStart with tx.lastShared := k }) (c := c) config chooses]
    rw [show State.lane { s.markStart with tx.lastShared := k } l = t from rfl,
      show (State.markStart s).timer.cycle = s.timer.cycle from rfl, sends,
      State.sendData_eq (s := s) (u := State.setLane { s.markStart with tx.lastShared := k } l sent) configured rfl rfl]
    rfl
  have offered : s.markStart.offerData = s.markStart.serveSlot b := by
    have serves : s.markStart.serves = true := (s.markStart.serves_iff).2 (by
      rw [show s.markStart.station.life = .joined from joined]; simp)
    unfold State.offerData
    rw [show s.markStart.entry s.markStart.timer.position = .ownHeld b home round from held]
    exact if_pos serves
  refine ⟨fun bound => ?_, fun open' first => ?_⟩
  · have offer : s.markStart.offerData = after s.tx.lastShared := by
      rw [offered, State.serveSlot_joined (s := s.markStart) joined, bound]
      exact (if_pos eligible).trans (served s.tx.lastShared)
    rw [row, State.startWith_sends offer rfl untaken]
  · have offer : s.markStart.offerData = after l := by
      rw [offered, State.serveSlot_shared (s := s.markStart) joined open', State.serveShared_first (s := s.markStart) first]
      exact served l
    rw [row, State.startWith_sends offer rfl untaken]

/-- Settles O51. -/
theorem openSlotActs : Obligations.OpenSlotActs := by
  intro s code starts configured behind
  have row := exec_openSlotStart starts configured behind
  have begins : s.transmitsIn s.timer.position = true → s.HeadDue := fun h => by
    have open' : ¬ s.timer.position < s.scheduled := by rw [s.scheduled_eq configured]; omega
    simpa only [State.Begins, if_neg open'] using (s.transmitsIn_iff _).1 h
  refine ⟨fun idle => ?_, fun f rest a life queue attempt => ?_⟩
  · have quiet : s.markStart.sendsControl = false ∨ s.markStart.sender.queue = [] :=
      idle.imp (fun off => Bool.eq_false_iff.2 fun sends => off ((s.markStart.sendsControl_iff).1 sends)) id
    rw [row, State.startWith_quiet (State.offerControl_idle quiet) rfl fun _ => rfl]
    rfl
  · have sends : s.markStart.sendsControl = true := (s.markStart.sendsControl_iff).2 life
    refine ⟨fun claim hold => ?_, fun unstopped due taken => ?_, fun unstopped due untaken => ?_,
      fun unstopped early => ?_⟩
    · rw [row, State.startWith_quiet (State.offerControl_held sends queue attempt claim hold) rfl fun _ => rfl]
      rfl
    · have head : s.transmitsIn s.timer.position = true := (s.transmitsIn_iff _).2 (by
        have open' : ¬ s.timer.position < s.scheduled := by rw [s.scheduled_eq configured]; omega
        simp only [State.Begins, if_neg open']
        exact ⟨life, f, rest, a, queue, attempt, due, unstopped⟩)
      rw [row, State.startWith_taken _ taken, if_pos head]
      rfl
    · have offered := State.offerControl_goes (v := s.markStart) sends queue attempt unstopped due
      rw [State.beginFrame_eq (s := s) (u := s.markStart) configured rfl rfl] at offered
      rw [row, State.startWith_sends offered rfl untaken]
      rfl
    · have stays : s.transmitsIn s.timer.position = true → False := fun h => by
        obtain ⟨-, g, rest', a', queue', attempt', due, -⟩ := begins h
        rw [attempt] at attempt'
        obtain rfl := Option.some.inj attempt'
        exact early due
      rw [row, State.startWith_quiet (State.offerControl_waits (v := s.markStart) sends queue attempt unstopped early) rfl
        fun h => (stays h).elim]
      rfl

end Sys2Proof.Proofs

/-!
PROOFS. What every step keeps of the blocks taken one by one: ranges, capacities, table sizes, presence, order of lanes,
and a clean station off the link. `State.Sound` states them block by block, and `State.sound_iff` ties it to the
invariants of the model's Safety file.
-/

namespace Sys2Proof.Machine

/-! ### The blocks -/

/-- The cycle timer of a station with this own address and this number of slots (R2, R25; log entry 21). -/
structure CycleTimer.Fits (address slots : Nat) (onLink : Bool) (t : CycleTimer) : Prop where
  hold : t.relearnHold ≤ 2
  reference : t.reference ≤ address
  position : onLink = true → t.position < slots
  ended : t.phase = .ended → t.position + 1 = slots
  absences : t.absencesDue.Pairwise (· < ·)

/-- The counts of the station controller and its configuration (R29, R35). -/
structure StationControl.Fits (c : StationControl) : Prop where
  address : c.address ≤ 62
  listen : c.listenCount ≤ 2
  leave : c.leaveCount ≤ 8
  code : c.code.isSome = true ↔ c.life ≠ .unconfigured

/-- A slot table entry at a station with this own address, which holds these peers PRESENT (R41, R54). -/
def Entry.Fits (own : Nat) (present : Nat → Bool) (e : Entry) : Prop :=
  e.inRange own = true ∧ ∀ x ∈ e.peer?, present x = true

structure SlotsFit (own n : Nat) (present : Nat → Bool) (slots : List Entry) : Prop where
  length : slots.length = n
  entries : ∀ e ∈ slots, e.Fits own present

structure PeersFit (peers : List Peer) : Prop where
  length : peers.length = 62
  silence : ∀ r ∈ peers, r.silence ≤ 16

/-- A transmit lane (R109, R111, R112). -/
structure TxLane.Fits (serves : Bool) (t : TxLane) : Prop where
  hold : t.busyHold ≤ 2
  count : t.busyCount ≤ 64
  ordered : t.Ordered serves

structure TxLanes.Fits (serves : Bool) (tx : TxLanes) : Prop where
  length : tx.lanes.length = 4
  lanes : ∀ t ∈ tx.lanes, t.Fits serves
  shared : tx.lastShared < 4

/-- The delivery unit of a station that holds these peers PRESENT (R128, R133). -/
structure Delivery.Fits (present : Nat → Bool) (d : Delivery) : Prop where
  length : d.contexts.length = 248
  inRange : d.InRange
  contexts : ∀ i < 248, (d.contexts.getD i none).isSome = true → present (i / 4 + 1) = true
  owed : ∀ a ∈ d.owed, present a.station = true ∧ a.channel < 4

structure RxLanes.Fits (rx : RxLanes) : Prop where
  lanes : rx.lanes.length = 4
  notify : rx.notify.length = 4
  room : ∀ l ∈ rx.lanes, l.length ≤ 2

/-- Every block is in its ranges and fits the others; `State.sound_iff` ties it to the model's invariants. -/
structure State.Sound (s : State) : Prop where
  line : s.line.faultCount ≤ 8
  timer : s.timer.Fits s.station.address s.slotCount s.station.life.onLink
  station : s.station.Fits
  slots : SlotsFit s.station.address s.scheduled s.isPresentPeer s.sched.slots
  sender : s.sender.InRange
  peers : PeersFit s.peers
  tx : s.tx.Fits s.serves
  delivery : s.delivery.Fits s.isPresentPeer
  rx : s.rx.Fits
  port : s.port.InRange
  reset : s.held = true → s.station.life = .unconfigured ∧ s.line.own = none ∧ s.port.transaction = none
  clean : s.CleanOffLink

theorem State.sound_iff (s : State) : s.Sound ↔
    s.CountsBounded ∧ s.Sized ∧ s.TableInRange ∧ s.CleanOffLink ∧ s.ConcernsPresent ∧ s.LanesOrdered := by
  constructor
  · intro h
    refine ⟨⟨h.line, h.timer.hold, h.timer.reference, h.station.address, h.station.listen, h.station.leave, h.sender,
      h.peers.silence, fun t mem => ⟨(h.tx.lanes t mem).hold, (h.tx.lanes t mem).count⟩, h.tx.shared, h.delivery.inRange,
      h.rx.room, h.port⟩, ⟨h.peers.length, h.tx.length, h.rx.lanes, h.rx.notify, h.delivery.length, h.slots.length,
      h.station.code, h.timer.position, h.timer.ended, h.timer.absences, h.reset⟩,
      ⟨h.station.address, fun e mem => (h.slots.entries e mem).1⟩, h.clean,
      ⟨fun e mem => (h.slots.entries e mem).2, h.delivery.contexts, h.delivery.owed⟩,
      fun t mem => (h.tx.lanes t mem).ordered⟩
  · rintro ⟨⟨line, hold, reference, address, listen, leave, sender, silence, busy, shared, delivery, room, port⟩,
      ⟨peers, lanes, rx, notify, contexts, slots, code, position, ended, absences, reset⟩, ⟨-, entries⟩, clean,
      ⟨owners, known, owed⟩, ordered⟩
    exact {
      line, sender, port, reset, clean
      timer := ⟨hold, reference, position, ended, absences⟩
      station := ⟨address, listen, leave, code⟩
      slots := ⟨slots, fun e mem => ⟨entries e mem, owners e mem⟩⟩
      peers := ⟨peers, silence⟩
      tx := ⟨lanes, fun t mem => ⟨(busy t mem).1, (busy t mem).2, ordered t mem⟩, shared⟩
      delivery := ⟨contexts, delivery, known, owed⟩
      rx := ⟨rx, notify, room⟩ }

/-! ### One block changed, on the link -/

section
variable {s : State}

/-- A station on the link is not held in reset. -/
theorem State.Sound.notHeld (h : s.Sound) (on : s.station.life.onLink = true) : s.held = false := by
  by_contra held
  have life := (h.reset (by simpa using held)).1
  rw [life] at on
  cases on

theorem State.Sound.configured (h : s.Sound) (on : s.station.life.onLink = true) : ∃ code, s.station.code = some code := by
  refine Option.isSome_iff_exists.1 (h.station.code.2 fun life => ?_)
  rw [life] at on
  cases on

/-- On the link neither reset nor the clean station off it bind. -/
theorem State.Sound.free_reset {t : State} (h : s.Sound) (on : s.station.life.onLink = true) (power : t.power = s.power) :
    t.held = true → t.station.life = .unconfigured ∧ t.line.own = none ∧ t.port.transaction = none := fun held => by
  have same : t.held = s.held := by simp only [State.held, power]
  rw [same, h.notHeld on] at held
  cases held

theorem State.free_clean {t : State} (on : t.station.life.onLink = true) : t.CleanOffLink := fun off => by
  rw [on] at off
  cases off

variable (h : s.Sound) (on : s.station.life.onLink = true)
include h on

theorem State.Sound.setLine {line : LineUnit} (fits : line.faultCount ≤ 8) : State.Sound { s with line := line } :=
  { h with line := fits, reset := h.free_reset on rfl, clean := State.free_clean on }

theorem State.Sound.setTimer {timer : CycleTimer} (fits : timer.Fits s.station.address s.slotCount true) :
    State.Sound { s with timer := timer } :=
  { h with timer := (by rw [on]; exact fits), reset := h.free_reset on rfl, clean := State.free_clean on }

theorem State.Sound.setSlots {sched : Schedule} (fits : ∀ e ∈ sched.slots, e.Fits s.station.address s.isPresentPeer)
    (length : sched.slots.length = s.sched.slots.length) : State.Sound { s with sched := sched } :=
  { h with
    slots := ⟨length.trans h.slots.length, fits⟩, reset := h.free_reset on rfl, clean := State.free_clean on }

theorem State.Sound.setSender {sender : OpenSender} (fits : sender.InRange) : State.Sound { s with sender := sender } :=
  { h with sender := fits, reset := h.free_reset on rfl, clean := State.free_clean on }

theorem State.Sound.setTx {tx : TxLanes} (fits : tx.Fits s.serves) : State.Sound { s with tx := tx } :=
  { h with tx := fits, reset := h.free_reset on rfl, clean := State.free_clean on }

theorem State.Sound.setDelivery {delivery : Delivery} (fits : delivery.Fits s.isPresentPeer) :
    State.Sound { s with delivery := delivery } :=
  { h with delivery := fits, reset := h.free_reset on rfl, clean := State.free_clean on }

theorem State.Sound.setRx {rx : RxLanes} (fits : rx.Fits) : State.Sound { s with rx := rx } :=
  { h with rx := fits, reset := h.free_reset on rfl, clean := State.free_clean on }

end

theorem TxLane.Fits.weaken {t : TxLane} {served served' : Bool} (h : t.Fits served) (less : served' = true → served = true) :
    t.Fits served' := by
  obtain ⟨hold, count, within, order, disabled, fits⟩ := h
  refine ⟨hold, count, within, order, disabled, fun c config => ⟨fun p mem => ?_, (fits c config).2⟩⟩
  have old := (fits c config).1 p mem
  unfold Position.fits at old ⊢
  cases served'
  · cases phase : p.phase <;> simp_all
  · rwa [less rfl] at old

section
variable {s : State} (h : s.Sound) (on : s.station.life.onLink = true) {c : StationControl} (on' : c.life.onLink = true)
  (address : c.address = s.station.address) (code : c.code = s.station.code) (listen : c.listenCount ≤ 2)
  (leave : c.leaveCount ≤ 8)
include h on on' address code listen leave

/-- Stations take another state on the link, with lanes that fit it. -/
theorem State.Sound.setStationTx {tx : TxLanes} (fits : tx.Fits (c.life == .joined || c.life == .leaving)) :
    State.Sound { s with station := c, tx := tx } := by
  have present : State.isPresentPeer { s with station := c, tx := tx } = s.isPresentPeer := by
    funext a
    simp only [State.isPresentPeer, address]
    rfl
  have scheduled : State.scheduled { s with station := c, tx := tx } = s.scheduled := State.scheduled_congr code
  have slotCount : State.slotCount { s with station := c, tx := tx } = s.slotCount := by simp only [State.slotCount, code]
  have configured : c.life ≠ .unconfigured := fun life => by rw [life] at on'; cases on'
  exact { h with
    timer := by
      have timer := h.timer
      rw [on] at timer
      change s.timer.Fits c.address _ c.life.onLink
      rw [address, slotCount, on']
      exact timer
    station := ⟨by rw [address]; exact h.station.address, listen, leave,
      ⟨fun _ => configured, fun _ => by
        obtain ⟨k, hk⟩ := h.configured on
        rw [code, hk]; rfl⟩⟩
    slots := by
      change SlotsFit c.address _ _ _
      rw [address, scheduled, present]
      exact h.slots
    tx := fits
    delivery := by rw [present]; exact h.delivery
    reset := h.free_reset on rfl
    clean := State.free_clean on' }

/-- The same with the lanes as they are, where the station serves no slots it did not serve before. -/
theorem State.Sound.setStation (serves : (c.life = .joined ∨ c.life = .leaving) → s.serves = true) :
    State.Sound { s with station := c } :=
  h.setStationTx on on' address code listen leave
    ⟨h.tx.length, fun t mem => (h.tx.lanes t mem).weaken fun served => serves (by simpa using served), h.tx.shared⟩

end

/-- Peers stay PRESENT or become so. -/
theorem State.Sound.setPeers {s : State} (h : s.Sound) (on : s.station.life.onLink = true) {peers : List Peer}
    (fits : PeersFit peers) (more : ∀ a, s.isPresentPeer a = true → State.isPresentPeer { s with peers := peers } a = true) :
    State.Sound { s with peers := peers } :=
  { h with
    peers := fits
    slots := ⟨h.slots.length, fun e mem => ⟨(h.slots.entries e mem).1, fun x own => more x ((h.slots.entries e mem).2 x own)⟩⟩
    delivery := ⟨h.delivery.length, h.delivery.inRange, fun i used valid => more _ (h.delivery.contexts i used valid),
      fun a mem => ⟨more _ (h.delivery.owed a mem).1, (h.delivery.owed a mem).2⟩⟩
    reset := h.free_reset on rfl
    clean := State.free_clean on }

/-! ### The port, and what the model keeps of its own -/

section
variable {s : State} (h : s.Sound)
include h

/-- Events and lost count change on and off the link. -/
theorem State.Sound.setPort {port : HostPort} (fits : port.InRange) (transaction : port.transaction = s.port.transaction) :
    State.Sound { s with port := port } :=
  { h with
    port := fits
    reset := fun held => by
      obtain ⟨life, own, none⟩ := h.reset held
      exact ⟨life, own, transaction.trans none⟩
    clean := h.clean }

theorem State.Sound.post (e : Event) : (s.post e).Sound := by
  have range := State.post_inRange e h.port
  have kept : (s.post e).port.transaction = s.port.transaction := by
    obtain ⟨-, hp⟩ | ⟨-, hp⟩ := s.post_cases e <;> rw [hp]
  have made := h.setPort range kept
  rwa [show { s with port := (s.post e).port } = s.post e by rw [State.post_eq]] at made

theorem State.Sound.postAll (es : List Event) : (s.postAll es).Sound := by
  unfold State.postAll
  induction es generalizing s with
  | nil => exact h
  | cons e es ih => exact ih (h.post e)

theorem State.Sound.setTransaction (free : s.held = false) (t : Option Transaction) :
    State.Sound { s with port.transaction := t } :=
  { h with
    reset := fun held => absurd (show s.held = true from held) (Bool.eq_false_iff.1 free)
    clean := h.clean }

theorem State.Sound.endTransaction : State.Sound { s with port.transaction := none } :=
  { h with reset := fun held => ⟨(h.reset held).1, (h.reset held).2.1, rfl⟩, clean := h.clean }

theorem State.Sound.setReads (n : Nat) : State.Sound { s with freeReads := n } := { h with clean := h.clean }

theorem State.Sound.setPending (l : List Instr) : State.Sound { s with pending := l } := { h with clean := h.clean }

end

end Sys2Proof.Machine

/-!
PROOFS. What the shared operations keep of the blocks on the link: entries, control queue, claims and moves of the
station.
-/

namespace Sys2Proof.Machine

/-- The station is on the link and every block is in order. -/
structure State.Live (s : State) : Prop where
  sound : s.Sound
  on : s.station.life.onLink = true

/-! ### Entries that fit -/

section
variable {own : Nat} {present : Nat → Bool} {e : Entry}

theorem Entry.fits_free : Entry.Fits own present .free := ⟨rfl, nofun⟩

/-- An own entry concerns no peer. -/
theorem Entry.fits_own (isOwn : e.isOwn = true) (range : e.inRange own = true) : e.Fits own present :=
  ⟨range, fun x mem => by cases e <;> simp_all [Entry.isOwn, Entry.peer?]⟩

theorem Entry.fits_freeIf (p : Entry → Bool) (fits : e.Fits own present) : (e.freeIf p).Fits own present := by
  obtain ⟨-, freed⟩ | ⟨-, kept⟩ := Entry.freeIf_cases p e
  · rw [freed]; exact Entry.fits_free
  · rwa [kept]

theorem Entry.fits_promote (fits : e.Fits own present) : e.promote.Fits own present := by
  cases e with
  | ownHeld b f r => exact Entry.fits_own rfl fits.1
  | _ => exact fits

end

/-! ### The blocks of a station on the link -/

section
variable {s : State} (h : s.Live)
include h

theorem State.Live.setLine {line : LineUnit} (fits : line.faultCount ≤ 8) : State.Live { s with line := line } :=
  ⟨h.sound.setLine h.on fits, h.on⟩

theorem State.Live.timer : s.timer.Fits s.station.address s.slotCount true := by
  have timer := h.sound.timer
  rwa [h.on] at timer

theorem State.Live.setTimer {timer : CycleTimer} (fits : timer.Fits s.station.address s.slotCount true) :
    State.Live { s with timer := timer } :=
  ⟨h.sound.setTimer h.on fits, h.on⟩

theorem State.Live.setSlots {sched : Schedule} (fits : ∀ e ∈ sched.slots, e.Fits s.station.address s.isPresentPeer)
    (length : sched.slots.length = s.sched.slots.length) : State.Live { s with sched := sched } :=
  ⟨h.sound.setSlots h.on fits length, h.on⟩

theorem State.Live.setSender {sender : OpenSender} (fits : sender.InRange) : State.Live { s with sender := sender } :=
  ⟨h.sound.setSender h.on fits, h.on⟩

theorem State.Live.setTx {tx : TxLanes} (fits : tx.Fits s.serves) : State.Live { s with tx := tx } :=
  ⟨h.sound.setTx h.on fits, h.on⟩

theorem State.Live.setDelivery {delivery : Delivery} (fits : delivery.Fits s.isPresentPeer) :
    State.Live { s with delivery := delivery } :=
  ⟨h.sound.setDelivery h.on fits, h.on⟩

theorem State.Live.setRx {rx : RxLanes} (fits : rx.Fits) : State.Live { s with rx := rx } :=
  ⟨h.sound.setRx h.on fits, h.on⟩

theorem State.Live.setReads (n : Nat) : State.Live { s with freeReads := n } := ⟨h.sound.setReads n, h.on⟩

theorem State.Live.post (e : Event) : (s.post e).Live := ⟨h.sound.post e, by rw [State.post_station]; exact h.on⟩

theorem State.Live.postAll (es : List Event) : (s.postAll es).Live :=
  ⟨h.sound.postAll es, by rw [State.postAll_station]; exact h.on⟩

/-- Another station state on the link that serves no slots, with the counts as they are. -/
theorem State.Live.setLife {life : StationState} (on : life.onLink = true) (serves : life ≠ .joined ∧ life ≠ .leaving) :
    State.Live { s with station.life := life } :=
  ⟨h.sound.setStation h.on on rfl rfl h.sound.station.listen h.sound.station.leave fun served =>
    served.elim (absurd · serves.1) (absurd · serves.2), on⟩

/-! ### Entries -/

theorem State.Live.entry (n : Nat) : (s.entry n).Fits s.station.address s.isPresentPeer := by
  obtain mem | free := s.entry_mem n
  · exact h.sound.slots.entries _ mem
  · rw [free]; exact Entry.fits_free

theorem State.Live.setEntry (n : Nat) {e : Entry} (fits : e.Fits s.station.address s.isPresentPeer) :
    (s.setEntry n e).Live :=
  h.setSlots (fun e' mem => (List.mem_or_eq_of_mem_set mem).elim (h.sound.slots.entries e') fun same => same ▸ fits)
    (by simp)

/-- Entries changed one by one. -/
theorem State.Live.mapSlots {f : Entry → Entry} (fits : ∀ e : Entry, e.Fits s.station.address s.isPresentPeer →
    (f e).Fits s.station.address s.isPresentPeer) (claim : Option Claim) :
    State.Live { s with sched := ⟨s.sched.slots.map f, claim⟩ } :=
  h.setSlots (fun e mem => by
    obtain ⟨e', mem', rfl⟩ := List.mem_map.1 mem
    exact fits e' (h.sound.slots.entries e' mem')) (by simp)

theorem State.Live.freeEntries (p : Entry → Bool) : (s.freeEntries p).Live :=
  h.mapSlots (fun _ fits => Entry.fits_freeIf p fits) s.sched.claim

theorem State.Live.setClaim (claim : Option Claim) : State.Live { s with sched.claim := claim } :=
  h.setSlots h.sound.slots.entries rfl

end

/-! ### The control queue -/

section
variable {s : State} (range : s.sender.InRange)
include range

theorem State.withoutHead_inRange : s.withoutHead.InRange := by
  obtain ⟨room, -, -, generator⟩ := range
  have made := State.newHead_inRange { s with sender.queue := s.sender.queue.tail } (by simp; omega) generator
  have same : (State.newHead { s with sender.queue := s.sender.queue.tail }).sender = s.withoutHead := s.dropHead_sender
  rwa [same] at made

theorem State.withFrame_inRange (room : s.sender.queue.length < 4) (f : CtlFrame) : (s.withFrame f).InRange := by
  obtain ⟨-, attempt, ranges, generator⟩ := range
  unfold State.withFrame
  by_cases empty : s.sender.queue = []
  · simp only [empty, if_true]
    refine ⟨by simp, by simp, ?_, Nat.mod_lt _ (by omega)⟩
    simp only [Option.mem_def, Option.some.injEq, forall_eq']
    exact ⟨by omega, by simp, by omega⟩
  · simp only [empty, if_false]
    exact ⟨by simpa using room, by simp [attempt.2 empty], ranges, generator⟩

/-- A queue of the same frames, some lists shortened, keeps its head's attempts. -/
theorem OpenSender.inRange_map {f : CtlFrame → CtlFrame} : OpenSender.InRange { s.sender with queue := s.sender.queue.map f } := by
  obtain ⟨room, attempt, ranges, generator⟩ := range
  exact ⟨by simpa using room, by simpa using attempt, ranges, generator⟩

end

/-- A CLAIM frame leaves the queue as its head, or from behind it, or none stands there. -/
theorem State.dropClaim_cases (s : State) :
    (s.sender.queue = [] ∧ s.dropClaim = s)
    ∨ (∃ f rest, s.sender.queue = f :: rest ∧ f.kind = .claim ∧ s.dropClaim = { s with sender := s.withoutHead })
    ∨ ∃ f rest, s.sender.queue = f :: rest ∧ f.kind ≠ .claim
      ∧ s.dropClaim = { s with sender.queue := f :: rest.filter (·.kind != .claim) } := by
  unfold State.dropClaim
  cases queue : s.sender.queue with
  | nil => exact .inl ⟨rfl, rfl⟩
  | cons f rest =>
    by_cases claim : f.kind = .claim
    · refine .inr (.inl ⟨f, rest, rfl, claim, ?_⟩)
      have head : State.newHead { s with sender.queue := rest } = { s with sender := s.withoutHead } := by
        unfold State.newHead State.withoutHead State.nextGenerator
        rw [queue]
        cases rest <;> rfl
      simp only [claim, beq_self_eq_true, if_true, head]
    · refine .inr (.inr ⟨f, rest, rfl, claim, ?_⟩)
      have other : (f.kind == CtlKind.claim) = false := by simpa using claim
      simp only [other, Bool.false_eq_true, if_false]

section
variable {s : State} (h : s.Live)
include h

theorem State.Live.appendControl (room : s.sender.queue.length < 4) (f : CtlFrame) : (s.appendControl f).Live := by
  rw [State.appendControl_eq]
  exact h.setSender (State.withFrame_inRange h.sound.sender room f)

theorem State.Live.dropHead : s.dropHead.Live := by
  rw [State.dropHead_eq]
  exact h.setSender (State.withoutHead_inRange h.sound.sender)

theorem State.Live.dropClaim : s.dropClaim.Live := by
  obtain ⟨-, same⟩ | ⟨f, rest, -, -, drop⟩ | ⟨f, rest, queue, -, drop⟩ := s.dropClaim_cases
  · rwa [same]
  · rw [drop]
    exact h.setSender (State.withoutHead_inRange h.sound.sender)
  · rw [drop]
    obtain ⟨room, attempt, ranges, generator⟩ := h.sound.sender
    rw [queue] at room attempt
    have shorter := List.length_filter_le (fun g : CtlFrame => g.kind != .claim) rest
    exact h.setSender ⟨by simp at room ⊢; omega, by simpa using attempt, ranges, generator⟩

theorem State.Live.editClaim (n : Nat) : (s.editClaim n).Live := by
  rw [State.editClaim_eq]
  have stripped : State.Live { s with sender.queue := s.sender.queue.map (CtlFrame.strip n) } :=
    h.setSender (OpenSender.inRange_map h.sound.sender)
  dsimp only
  split
  · exact stripped.dropClaim
  · exact stripped

theorem State.Live.clearQueue : s.clearQueue.Live :=
  h.setSender ⟨by simp, by simp, by simp, h.sound.sender.2.2.2⟩

theorem State.Live.placeRelease (slots : List Nat) : (s.placeRelease slots).Live := by
  obtain ⟨i, -, joins⟩ | ⟨room, appends⟩ | ⟨-, same⟩ := s.placeRelease_cases slots
  · rw [joins]
    obtain ⟨room, attempt, ranges, generator⟩ := h.sound.sender
    have nonempty : ∀ l : List CtlFrame, ∀ g, l.modify i g = [] ↔ l = [] := fun l g => by
      rw [← List.length_eq_zero_iff, List.length_modify, List.length_eq_zero_iff]
    exact h.setSender ⟨by simpa using room, by simpa [nonempty] using attempt, ranges, generator⟩
  · rw [appends]
    exact h.setSender (State.withFrame_inRange h.sound.sender room _)
  · rwa [same]

/-! ### Moves of the station -/

theorem State.Live.homePick : s.homePick.Live := by
  obtain ⟨n, room, -, pick⟩ | ⟨-, ⟨-, pick⟩ | ⟨-, pick⟩⟩ := s.homePick_cases
  · rw [pick]
    have claimed := (h.setEntry n (e := .ownClaiming .shared true none) (Entry.fits_own rfl rfl)).setLife
      (life := .joining) rfl (by simp)
    exact (claimed.setClaim (some ⟨.home, .unsent⟩)).setSender (State.withFrame_inRange h.sound.sender room _)
  · rwa [pick]
  · rw [pick]
    exact ((h.setLife (life := .waiting) rfl (by simp)).clearQueue).post _

theorem State.Live.endClaim : s.endClaim.Live := by
  have ended : State.Live { s with sched := s.unclaimed } :=
    h.mapSlots (fun e fits => by split; exacts [Entry.fits_free, fits]) none
  rw [State.endClaim_eq]
  split
  · exact h
  · exact ended.post _
  · exact ended

theorem State.Live.claimLost : s.claimLost.Live := by
  rw [State.claimLost_eq]
  split
  · exact h
  · exact (h.setClaim none).post _
  · exact (h.setClaim none).homePick

end

theorem TxLane.ordered_offline (t : TxLane) (serves : Bool) : t.offline.Fits serves :=
  ⟨by simp [TxLane.offline], by simp [TxLane.offline], by simp [TxLane.offline], by simp [TxLane.offline],
    fun _ => rfl, fun c config => ⟨by simp [TxLane.offline], fun halted => absurd rfl halted⟩⟩

theorem TxLane.offline_offline (t : TxLane) : t.offline.offline = t.offline := rfl

/-- A delivery unit without contexts and owed acks. -/
theorem Delivery.fits_empty (present : Nat → Bool) : Delivery.Fits present ⟨List.replicate 248 none, []⟩ := by
  refine ⟨List.length_replicate .., ⟨Nat.zero_le _, List.Pairwise.nil⟩, fun i used valid => ?_, nofun⟩
  rw [List.getD_eq_getElem?_getD, List.getElem?_replicate] at valid
  simp [used] at valid

theorem stoppedTimer_fits (address slots : Nat) : (stoppedTimer address).Fits address slots false :=
  ⟨Nat.zero_le _, Nat.le_refl _, nofun, nofun, List.Pairwise.nil⟩

theorem SlotsFit.replicate (own n : Nat) (present : Nat → Bool) : SlotsFit own n present (List.replicate n .free) :=
  ⟨List.length_replicate .., fun e mem => by rw [List.eq_of_mem_replicate mem]; exact Entry.fits_free⟩

theorem PeersFit.replicate : PeersFit (List.replicate 62 ⟨false, 0, false⟩) :=
  ⟨List.length_replicate .., fun r mem => by rw [List.eq_of_mem_replicate mem]; exact Nat.zero_le _⟩

/-- A move off the link that empties every block leaves it in order and clean. -/
theorem State.Sound.emptied {s : State} (h : s.Sound) (free : s.held = false) {own : Option OwnFrame}
    (ran : ∀ f ∈ own, f.discarded = true) {life : StationState} (off : life.onLink = false)
    (code : s.station.code.isSome = true ↔ life ≠ .unconfigured) {f : TxLane → TxLane} (lanes : ∀ t, (f t).offline = f t)
    {port : HostPort} (range : port.InRange) :
    State.Sound { s with
      line := ⟨own, 0, false, [], false, none⟩
      timer := stoppedTimer s.station.address
      station := ⟨life, s.station.address, s.station.code, 0, false, 0⟩
      sched := ⟨List.replicate s.scheduled .free, none⟩
      sender := ⟨[], none, 0⟩
      peers := List.replicate 62 ⟨false, 0, false⟩
      tx := ⟨s.tx.lanes.map f, 3⟩
      delivery := ⟨List.replicate 248 none, []⟩
      rx := ⟨List.replicate 4 [], s.rx.notify⟩
      port := port } where
  line := Nat.zero_le _
  timer := by
    change (stoppedTimer s.station.address).Fits s.station.address s.slotCount life.onLink
    rw [off]
    exact stoppedTimer_fits _ _
  station := ⟨h.station.address, Nat.zero_le _, Nat.zero_le _, code⟩
  slots := SlotsFit.replicate ..
  sender := ⟨Nat.zero_le _, by simp, by simp, Nat.zero_lt_succ _⟩
  peers := PeersFit.replicate
  tx := ⟨(List.length_map _).trans h.tx.length, fun t mem => by
    obtain ⟨t', -, rfl⟩ := List.mem_map.1 mem
    rw [← lanes t']
    exact TxLane.ordered_offline _ _, Nat.lt_succ_self _⟩
  delivery := Delivery.fits_empty _
  rx := ⟨List.length_replicate .., h.rx.notify, fun l mem => by rw [List.eq_of_mem_replicate mem]; exact Nat.zero_le _⟩
  port := range
  reset := fun held => absurd (show s.held = true from held) (Bool.eq_false_iff.1 free)
  clean := fun _ => ⟨rfl, rfl, ran, rfl, rfl, rfl, rfl, fun e mem => List.eq_of_mem_replicate mem, rfl, rfl,
    fun r mem => List.eq_of_mem_replicate mem, fun t mem => by
      obtain ⟨t', -, rfl⟩ := List.mem_map.1 mem
      exact (lanes t').symm, rfl, fun c mem => List.eq_of_mem_replicate mem, rfl, fun l mem => List.eq_of_mem_replicate mem⟩

/-- The move to OFFLINE (R37). -/
theorem State.Live.offLink {s : State} (h : s.Live) (r : LeftReason) : (s.offLink r).Sound := by
  have posted := h.post (.left r)
  have discarded : ∀ f ∈ s.line.own.map fun f => { f with discarded := true }, f.discarded = true := fun f mem => by
    obtain ⟨g, -, rfl⟩ := Option.mem_map.1 mem
    rfl
  obtain ⟨code, configured⟩ := h.sound.configured h.on
  have made := posted.sound.emptied (posted.sound.notHeld posted.on) discarded (life := .offline) rfl
    (by rw [State.post_station, configured]; simp) TxLane.offline_offline posted.sound.port
  rw [State.post_eq] at made
  unfold State.offLink
  rw [State.post_eq]
  exact made

/-! ### Losses and wins -/

section
variable {s : State} (h : s.Live)
include h

theorem State.Live.homeLost : s.homeLost.Sound := by
  obtain ⟨n, -, passes⟩ | ⟨-, ⟨-, leaves⟩ | ⟨-, t, rfl, starts⟩ | ⟨-, same⟩⟩ := s.homeLost_cases
  · rw [passes]
    exact (h.setEntry n (Entry.fits_promote (h.entry n))).sound
  · rw [leaves]
    exact h.offLink _
  · rw [starts]
    have freed := h.freeEntries fun e => e.isOwn && !e.isClaiming
    split
    · exact freed.dropClaim.endClaim.homePick.sound
    · exact freed.endClaim.homePick.sound
  · rw [same]
    exact h.sound

theorem State.Live.lossNotice (n : Nat) (before : Entry) : (s.lossNotice n before).Sound := by
  obtain ⟨b, f, k, -, t, stripped, eq⟩ | ⟨b, f, r, w, -, eq⟩ | ⟨-, eq⟩ := s.lossNotice_cases n before <;> rw [eq]
  · have live : t.Live := by
      obtain rfl | rfl := stripped
      · exact h
      · exact h.editClaim n
    split
    · exact live.sound
    · exact live.claimLost.sound
  · split
    · exact (h.post _).homeLost
    · exact (h.post _).sound
  · exact h.sound

/-- The loss of a claimed slot leaves the station on the link. -/
theorem State.Live.lossNotice_claiming (n : Nat) {b : Binding} {f : Bool} {k : Option Nat} :
    (s.lossNotice n (.ownClaiming b f k)).Live := by
  obtain ⟨_, _, _, -, t, stripped, eq⟩ | ⟨_, _, _, _, no, -⟩ | ⟨no, -⟩ := s.lossNotice_cases n (.ownClaiming b f k)
  · have live : t.Live := by
      obtain rfl | rfl := stripped
      · exact h
      · exact h.editClaim n
    rw [eq]
    split
    · exact live
    · exact live.claimLost
  · cases no
  · exact absurd (no rfl) Bool.false_ne_true

end

/-- A position that is SENT no more fits a lane as it did. -/
theorem Position.fits_unsend {c : LaneConfig} {served served' : Bool} {p : Position} (h : p.fits c served = true) :
    p.unsend.fits c served' = true := by
  obtain ⟨payload, seq, phase⟩ := p
  unfold Position.fits at h ⊢
  cases phase <;> simp_all [Position.unsend]

theorem Position.rank_unsend (p : Position) : p.unsend.phase.rank = max p.phase.rank 1
    ∧ (p.unsend.phase = .loading ↔ p.phase = .loading) ∧ p.unsend.payload = p.payload := by
  obtain ⟨payload, seq, phase⟩ := p
  cases phase <;> simp [Position.unsend, PosPhase.rank]

/-- A lane whose SENT positions go out anew stays in order, whatever it serves. -/
theorem TxLane.Fits.unsent {t : TxLane} {served : Bool} (h : t.Fits served) (serves : Bool) {halt : Option HaltReason}
    (halted : halt = none ∨ halt = t.halt) {armed : Bool} {hold count : Nat} (low : hold ≤ 2) (few : count ≤ 64) :
    TxLane.Fits serves { t with
      halt := halt, positions := t.positions.map Position.unsend, armed := armed, busyHold := hold, busyCount := count } := by
  obtain ⟨-, -, within, order, disabled, fits⟩ := h
  refine ⟨low, few, by simpa [TxLane.depth] using within, ?_, fun none => ?_, fun c config => ⟨fun p mem => ?_, fun stopped => ?_⟩⟩
  · rw [List.pairwise_map]
    refine order.imp fun {p q} hpq => ?_
    obtain ⟨rank, notLoading⟩ := hpq
    obtain ⟨rp, lp, -⟩ := p.rank_unsend
    obtain ⟨rq, -, -⟩ := q.rank_unsend
    exact ⟨by omega, fun h => notLoading (lp.1 h)⟩
  · obtain rfl | rfl := halted
    · rfl
    · exact disabled none
  · obtain ⟨p', mem', rfl⟩ := List.mem_map.1 mem
    exact Position.fits_unsend ((fits c config).1 p' mem')
  · obtain rfl | rfl := halted
    · exact absurd rfl stopped
    · exact (fits c config).2 stopped

theorem TxLane.Fits.armed {t : TxLane} {served : Bool} (h : t.Fits served) (serves : Bool) : t.armAtJoin.Fits serves := by
  rw [TxLane.armAtJoin_eq]
  split
  · rename_i ready
    exact h.unsent serves (.inr rfl) h.hold h.count
  · rename_i halted
    have notReady : t.ready = false := by rwa [Bool.eq_false_iff, ne_eq, TxLane.ready_iff]
    obtain ⟨hold, count, within, order, disabled, fits⟩ := h
    refine ⟨hold, count, within, order, disabled, fun c config => ⟨fun p mem => ?_, (fits c config).2⟩⟩
    have old := (fits c config).1 p mem
    rw [notReady, Bool.and_false] at old ⊢
    exact old

theorem State.Live.winClaim {s : State} (h : s.Live) : s.winClaim.Live := by
  have won : ∀ e : Entry, e.Fits s.station.address s.isPresentPeer → (Entry.won e).Fits s.station.address s.isPresentPeer :=
    fun e fits => by
      cases e with
      | ownClaiming b f k =>
        have range : b.inRange = true := (Bool.and_eq_true_iff.1 fits.1).1
        exact Entry.fits_own (e := .ownHeld b f 0) rfl (by simp [Entry.inRange, range])
      | _ => exact fits
  have held : State.Live { s with sched := ⟨s.sched.slots.map Entry.won, none⟩ } := h.mapSlots won none
  unfold State.winClaim
  split
  · rename_i kind claim
    cases kind with
    | reservation lane => exact held.post _
    | home =>
      have armed : State.Live { s with
          sched := ⟨s.sched.slots.map Entry.won, none⟩, station.life := .joined, tx.lanes := s.tx.lanes.map TxLane.armAtJoin } := by
        refine ⟨held.sound.setStationTx (c := { s.station with life := .joined })
          (tx := ⟨s.tx.lanes.map TxLane.armAtJoin, s.tx.lastShared⟩) held.on rfl rfl rfl h.sound.station.listen
          h.sound.station.leave ⟨(List.length_map _).trans h.sound.tx.length, fun t mem => ?_, h.sound.tx.shared⟩, rfl⟩
        obtain ⟨t', mem', rfl⟩ := List.mem_map.1 mem
        exact (h.sound.tx.lanes t' mem').armed _
      exact armed.post _
  · exact h

end Sys2Proof.Machine

/-!
PROOFS. What the shared operations keep of the blocks on the link: lanes and their halts, presence, and the delivery
unit.
-/

namespace Sys2Proof.Machine

/-! ### Lanes -/

theorem TxLane.fits_default (serves : Bool) : TxLane.Fits serves ⟨none, none, [], 0, false, 0, 0⟩ :=
  TxLane.ordered_offline ⟨none, none, [], 0, false, 0, 0⟩ serves

section
variable {t : TxLane} {serves : Bool} (h : t.Fits serves)
include h

/-- A lane that loses positions stays in order. -/
theorem TxLane.Fits.fewer {positions : List Position} (fewer : positions.Sublist t.positions) {count : Nat} (few : count ≤ 64) :
    TxLane.Fits serves { t with positions := positions, busyCount := count } := by
  obtain ⟨hold, -, within, order, disabled, fits⟩ := h
  exact ⟨hold, few, Nat.le_trans fewer.length_le within, order.sublist fewer, disabled, fun c config =>
    ⟨fun p mem => (fits c config).1 p (fewer.subset mem), (fits c config).2⟩⟩

/-- A position changed in place, within its state in the order and with its payload. -/
theorem TxLane.Fits.mapPositions {f : Position → Position} (rank : ∀ p, (f p).phase.rank = p.phase.rank)
    (fits : ∀ c ∈ t.config, ∀ p ∈ t.positions, p.fits c (serves && t.ready) = true →
      (f p).fits c (serves && t.ready) = true) {hold count : Nat} (low : hold ≤ 2) (few : count ≤ 64) :
    TxLane.Fits serves { t with positions := t.positions.map f, busyHold := hold, busyCount := count } := by
  obtain ⟨-, -, within, order, disabled, held⟩ := h
  have loading : ∀ p : Position, (f p).phase = .loading → p.phase = .loading := fun p same => by
    have := rank p
    rw [same] at this
    cases phase : p.phase <;> simp_all [PosPhase.rank]
  refine ⟨low, few, by simpa [TxLane.depth] using within, ?_, disabled, fun c config => ⟨fun p mem => ?_, (held c config).2⟩⟩
  · rw [List.pairwise_map]
    exact order.imp fun {p q} hpq => ⟨by rw [rank, rank]; exact hpq.1, fun same => hpq.2 (loading p same)⟩
  · obtain ⟨q, mem', rfl⟩ := List.mem_map.1 mem
    exact fits c config q mem' ((held c config).1 q mem')

/-- A lane that may halt (R110). -/
def TxLane.Unicast (t : TxLane) : Prop := ∃ c, t.config = some c ∧ c.destination ≠ 63

theorem TxLane.Fits.halted (unicast : t.Unicast) (r : HaltReason) : TxLane.Fits serves { t with halt := some r } := by
  obtain ⟨hold, count, within, order, disabled, fits⟩ := h
  obtain ⟨c, config, apart⟩ := unicast
  refine ⟨hold, count, within, order, fun none => ?_, fun c' config' => ⟨fun p mem => ?_, fun _ => ?_⟩⟩
  · rw [show t.config = Option.none from none] at config; cases config
  · have old := (fits c' config').1 p mem
    have notReady : TxLane.ready { t with halt := some r } = false := by simp [TxLane.ready]
    rw [notReady, Bool.and_false]
    unfold Position.fits at old ⊢
    cases phase : p.phase <;> simp_all
  · rw [show t.config = some c' from config'] at config
    obtain rfl := Option.some.inj config
    exact apart

end

theorem TxLane.isTo_unicast {t : TxLane} {p : Nat} (addressed : t.isTo p = true) : t.Unicast := by
  unfold TxLane.isTo at addressed
  cases config : t.config with
  | none => simp [config] at addressed
  | some c =>
    simp only [config, Bool.and_eq_true, bne_iff_ne] at addressed
    exact ⟨c, config, addressed.2⟩

section
variable {s : State} (h : s.Live)
include h

theorem State.Live.lane (l : Nat) : (s.lane l).Fits s.serves := by
  obtain mem | default := s.lane_mem l
  · exact h.sound.tx.lanes _ mem
  · rw [default]; exact TxLane.fits_default _

theorem State.Live.setLane (l : Nat) {t : TxLane} (fits : t.Fits s.serves) : (s.setLane l t).Live :=
  h.setTx ⟨by simpa using h.sound.tx.length, fun t' mem =>
    (List.mem_or_eq_of_mem_set mem).elim (h.sound.tx.lanes t') fun same => same ▸ fits, h.sound.tx.shared⟩

theorem State.Live.mapLanes {f : TxLane → TxLane} (fits : ∀ t : TxLane, t.Fits s.serves → (f t).Fits s.serves) :
    (s.mapLanes f).Live :=
  h.setTx ⟨by simpa using h.sound.tx.length, fun t mem => by
    obtain ⟨t', mem', rfl⟩ := List.mem_map.1 mem
    exact fits t' (h.sound.tx.lanes t' mem'), h.sound.tx.shared⟩

theorem State.Live.haltLane (l : Nat) (r : HaltReason) (unicast : (s.lane l).Unicast) : (s.haltLane l r).Live := by
  obtain ⟨-, halts⟩ | ⟨-, same⟩ := s.haltLane_cases l r
  · rw [halts]
    exact (h.setLane l ((h.lane l).halted unicast r)).post _
  · rwa [same]

theorem State.Live.haltLanesTo (p : Nat) : (s.haltLanesTo p).Live := by
  rw [State.haltLanesTo_eq h.sound.tx.length]
  refine State.Live.postAll (h.mapLanes fun t fits => ?_) _
  split
  · rename_i halts
    exact fits.halted (TxLane.isTo_unicast (Bool.and_eq_true_iff.1 halts).2) _
  · exact fits

theorem State.Live.fallBack : s.fallBack.Live := by
  have fell : State.Live { s with timer.reference := s.station.address } :=
    h.setTimer { h.timer with reference := Nat.le_refl _ }
  rw [State.fallBack_eq]
  split
  · exact fell
  · exact fell.post _

end

/-! ### Presence -/

theorem State.isPresentPeer_iff (s : State) (a : Nat) :
    s.isPresentPeer a = true ↔ 1 ≤ a ∧ a ≤ 62 ∧ a ≠ s.station.address ∧ (s.peer a).present = true := by
  simp [State.isPresentPeer, and_assoc]

theorem State.isPresentPeer_congr {s t : State} (peers : t.peers = s.peers) (address : t.station.address = s.station.address) :
    t.isPresentPeer = s.isPresentPeer := by
  funext a
  simp only [State.isPresentPeer, State.peer, peers, address]

theorem State.setPeer_eq (s : State) (p : Nat) (r : Peer) : s.setPeer p r = { s with peers := (s.setPeer p r).peers } := by
  unfold State.setPeer; split <;> rfl

/-- Presence of another address does not change with a record. -/
theorem State.setPeer_other (s : State) {p a : Nat} (r : Peer) (other : a ≠ p) :
    (s.setPeer p r).isPresentPeer a = s.isPresentPeer a := by
  rw [Bool.eq_iff_iff, State.isPresentPeer_iff, State.isPresentPeer_iff, State.setPeer_station]
  refine and_congr_right fun one => and_congr_right fun _ => and_congr_right fun _ => ?_
  by_cases zero : 1 ≤ p
  · rw [State.peer_setPeer s r zero one, if_neg fun same => other same.1]
  · rw [State.setPeer, if_neg zero]

theorem State.Live.peersFit {s : State} (h : s.Live) (p : Nat) {r : Peer} (silence : r.silence ≤ 16) :
    PeersFit (s.setPeer p r).peers := by
  refine ⟨by rw [State.peers_setPeer_length]; exact h.sound.peers.length, fun r' mem => ?_⟩
  unfold State.setPeer at mem
  split at mem
  · exact (List.mem_or_eq_of_mem_set mem).elim (h.sound.peers.silence r') fun same => same ▸ silence
  · exact h.sound.peers.silence r' mem

theorem State.Live.peer_silence {s : State} (h : s.Live) (p : Nat) : (s.peer p).silence ≤ 16 := by
  unfold State.peer
  by_cases inTable : p - 1 < s.peers.length
  · simpa [inTable] using h.sound.peers.silence _ (List.getElem_mem inTable)
  · simp [Nat.not_lt.1 inTable]

/-- A record changed that takes no presence away. -/
theorem State.Live.setPeer {s : State} (h : s.Live) (p : Nat) {r : Peer} (silence : r.silence ≤ 16)
    (keeps : s.isPresentPeer p = true → r.present = true) : (s.setPeer p r).Live := by
  rw [State.setPeer_eq]
  refine ⟨h.sound.setPeers h.on (h.peersFit p silence) fun a known => ?_, h.on⟩
  rw [← State.setPeer_eq]
  by_cases same : a = p
  · subst same
    have ranges := (s.isPresentPeer_iff a).1 known
    have stored : a - 1 < s.peers.length := by rw [h.sound.peers.length]; omega
    rw [State.isPresentPeer_iff, State.setPeer_station, State.peer_setPeer s r ranges.1 ranges.1, if_pos ⟨rfl, stored⟩]
    exact ⟨ranges.1, ranges.2.1, ranges.2.2.1, keeps known⟩
  · rwa [State.setPeer_other s r same]

/-- What concerns no peer but this one goes with it. -/
theorem Entry.fits_without {own p : Nat} {present present' : Nat → Bool} {e : Entry} (fits : e.Fits own present)
    (others : ∀ a, a ≠ p → present a = true → present' a = true) :
    (if e.peer? = some p then .free else e : Entry).Fits own present' := by
  split
  · exact Entry.fits_free
  · rename_i other
    exact ⟨fits.1, fun x mem => others x (fun same => other (same ▸ mem)) (fits.2 x mem)⟩

theorem Delivery.fits_without {p : Nat} {present present' : Nat → Bool} {d : Delivery} (fits : d.Fits present)
    (others : ∀ a, a ≠ p → present a = true → present' a = true) (one : 1 ≤ p ∨ present = present') :
    Delivery.Fits present' ⟨d.contexts.mapIdx fun i c => if i / 4 = p - 1 then none else c,
      d.owed.filter fun a => a.station != p⟩ := by
  obtain ⟨length, ⟨eight, pairs⟩, contexts, owed⟩ := fits
  refine ⟨by simpa using length, ⟨Nat.le_trans (List.length_filter_le ..) eight, pairs.sublist List.filter_sublist⟩,
    fun i used valid => ?_, fun a mem => ?_⟩
  · have inTable : i < d.contexts.length := by rw [length]; exact used
    simp only [List.getD_eq_getElem?_getD, List.getElem?_mapIdx, List.getElem?_eq_getElem inTable, Option.map_some,
      Option.getD_some] at valid
    split at valid
    · cases valid
    · rename_i elsewhere
      have known := contexts i used (by simpa [inTable] using valid)
      obtain one | same := one
      · exact others _ (by omega) known
      · rwa [← same]
  · obtain ⟨mem, other⟩ := List.mem_filter.1 mem
    exact ⟨others _ (by simpa using other) (owed a mem).1, (owed a mem).2⟩

/-- A peer that leaves takes its entries, contexts and owed acks with it (R54, R135). -/
theorem State.Live.depart {s : State} (h : s.Live) (p : Nat) {r : Peer} (silence : r.silence ≤ 16) :
    ((s.setPeer p r).withoutPeer p).Live := by
  have others : ∀ a, a ≠ p → s.isPresentPeer a = true → (s.setPeer p r).isPresentPeer a = true := fun a other known => by
    rwa [State.setPeer_other s r other]
  have one : 1 ≤ p ∨ s.isPresentPeer = (s.setPeer p r).isPresentPeer := by
    by_cases zero : 1 ≤ p
    · exact .inl zero
    · exact .inr (by rw [State.setPeer, if_neg zero])
  have slots := h.sound.slots
  have delivery := Delivery.fits_without h.sound.delivery others one
  have entries : ∀ e ∈ s.sched.slots.map (fun e => if e.peer? = some p then Entry.free else e),
      e.Fits s.station.address (s.setPeer p r).isPresentPeer := fun e mem => by
    obtain ⟨e', mem', rfl⟩ := List.mem_map.1 mem
    exact Entry.fits_without (slots.entries e' mem') others
  have peers := h.peersFit p silence
  rw [State.setPeer_eq] at entries delivery ⊢
  exact ⟨{ h.sound with
    peers := peers
    slots := ⟨(List.length_map _).trans slots.length, entries⟩
    delivery := delivery
    reset := h.sound.free_reset h.on rfl
    clean := State.free_clean h.on }, h.on⟩

/-- The rest of a notice: halts, and the fallback of the reference in an open order. -/
theorem State.Live.noticed {s : State} (p : Nat) (h : (s.withoutPeer p).Live) : (s.absenceNotice p).Live := by
  rw [State.absenceNotice_eq]
  split
  · obtain ⟨r, order⟩ | ⟨r, order⟩ := State.eitherOrder_cases Config.fallbackFirst State.fallBack
      (fun s => s.haltLanesTo p) (s.withoutPeer p) <;> rw [order]
    · exact (h.fallBack.haltLanesTo p).setReads r
    · exact ((h.haltLanesTo p).fallBack).setReads r
  · exact h.haltLanesTo p

theorem State.withoutPeer_post (s : State) (p : Nat) (e : Event) : (s.post e).withoutPeer p = (s.withoutPeer p).post e := by
  rw [State.post_eq, State.post_eq]
  rfl

section
variable {s : State} (h : s.Live)
include h

theorem State.Live.peerStep (p : Nat) : (s.peerStep p).Live := by
  simp only [State.peerStep]
  split_ifs with counts below
  · exact h.setPeer p (by dsimp only; omega) fun _ => (Bool.and_eq_true_iff.1 counts).1
  · refine State.Live.noticed p ?_
    rw [State.withoutPeer_post]
    exact (h.depart p (Nat.le_refl _)).post _
  · exact h

theorem State.Live.peerHeard (x : Nat) : (s.peerHeard x).Live := by
  simp only [State.peerHeard]
  have heard := h.setPeer x (r := ⟨true, 0, false⟩) (Nat.zero_le _) fun _ => rfl
  split
  · exact heard
  · exact heard.post _

theorem State.Live.peerLeft (x : Nat) : (s.peerLeft x).Live := by
  simp only [State.peerLeft]
  have silence := h.peer_silence x
  split
  · refine State.Live.noticed x ?_
    rw [State.withoutPeer_post]
    exact (h.depart x (r := { s.peer x with present := false, mismatch := false }) silence).post _
  · rename_i absent
    exact h.setPeer x silence fun known => absurd ((s.isPresentPeer_iff x).1 known).2.2.2 absent

theorem State.Live.peerMismatched (x : Nat) : (s.peerMismatched x).Live := by
  simp only [State.peerMismatched]
  split
  · exact h
  · exact State.Live.post (h.setPeer x (r := { s.peer x with mismatch := true }) (h.peer_silence x) fun known => ((s.isPresentPeer_iff x).1 known).2.2.2) _

end

/-- The sender of a frame heard is PRESENT (R96). -/
theorem State.Live.peerHeard_known {s : State} (h : s.Live) {x : Nat} (range : 1 ≤ x ∧ x ≤ 62) (other : x ≠ s.station.address) :
    (s.peerHeard x).isPresentPeer x = true := by
  have stored : x - 1 < s.peers.length := by rw [h.sound.peers.length]; omega
  have known : (s.setPeer x ⟨true, 0, false⟩).isPresentPeer x = true := by
    rw [State.isPresentPeer_iff, State.setPeer_station, State.peer_setPeer s _ range.1 range.1, if_pos ⟨rfl, stored⟩]
    exact ⟨range.1, range.2, other, rfl⟩
  simp only [State.peerHeard]
  split
  · exact known
  · rw [State.isPresentPeer_congr (State.post_peers _ _) (by rw [State.post_station])]
    exact known

/-! ### The delivery unit -/

theorem mem_oweAck {owed : List AckEntry} {a b : AckEntry} (mem : b ∈ oweAck owed a) : b = a ∨ b ∈ owed := by
  unfold oweAck at mem
  split_ifs at mem
  · obtain ⟨o, mem', rfl⟩ := List.mem_map.1 mem
    split_ifs
    · exact .inl rfl
    · exact .inr mem'
  · simpa [or_comm] using mem
  · obtain mem | mem := List.mem_append.1 mem
    · exact .inr (List.mem_of_mem_tail mem)
    · exact .inl (by simpa using mem)

section
variable {s : State} (h : s.Live) {p c : Nat} (known : s.isPresentPeer p = true) (channel : c < 4)
include h

theorem State.Live.deliver (room : s.rxRoom c = true) (broadcast : Bool) (payload : List Byte) :
    (s.deliver p c broadcast payload).Live := by
  refine h.setRx ⟨(List.length_modify ..).trans h.sound.rx.lanes, h.sound.rx.notify, fun l mem => ?_⟩
  obtain ⟨i, inTable, rfl⟩ := List.mem_iff_getElem.1 mem
  have inTable' : i < s.rx.lanes.length := by simpa using inTable
  rw [List.getElem_modify]
  have short := h.sound.rx.room _ (List.getElem_mem inTable')
  split
  · rename_i same
    subst same
    have free : (s.rx.lanes[c]).length < 2 := by simpa [State.rxRoom, State.rxLane, inTable'] using room
    simpa using free
  · exact short

include known channel

theorem State.Live.setContext (v : Option Seq) : (s.setContext p c v).Live := by
  obtain ⟨length, range, contexts, owed⟩ := h.sound.delivery
  have ranges := (s.isPresentPeer_iff p).1 known
  refine h.setDelivery ⟨by simpa using length, range, fun i used valid => ?_, owed⟩
  by_cases here : contextIndex p c = i
  · have same : i / 4 + 1 = p := by unfold contextIndex at here; omega
    rwa [same]
  · refine contexts i used ?_
    simpa [List.getElem?_set_ne here] using valid

theorem State.Live.owe (e : Seq) (busy : Bool) : (s.owe p c e busy).Live := by
  obtain ⟨length, range, contexts, owed⟩ := h.sound.delivery
  refine h.setDelivery ⟨length, oweAck_inRange range, contexts, fun a mem => ?_⟩
  obtain rfl | mem := mem_oweAck mem
  · exact ⟨known, channel⟩
  · exact owed a mem

end

section
variable {s : State} (h : s.Live) {p : Nat} (known : s.isPresentPeer p = true) {k : Packet} (channel : k.channel < 4)
include h known channel

theorem State.Live.judgeInOrder (e : Seq) : (s.judgeInOrder p k e).Live := by
  unfold State.judgeInOrder
  split_ifs with now room
  · exact ((h.deliver room false k.payload).setContext known channel _).owe known channel _ _
  · exact h.owe known channel _ _
  · exact h.owe known channel _ _
  · exact h

theorem State.Live.judge : (s.judge p k).Live := by
  unfold State.judge
  split_ifs
  · unfold State.judgeUnicast
    split
    · split_ifs
      · exact h.owe known channel _ _
      · exact (h.setContext known channel _).judgeInOrder known channel _
    · exact (h.setContext known channel _).judgeInOrder known channel _
    · exact h.judgeInOrder known channel _
    · exact h
  · unfold State.judgeBroadcast
    split
    · exact h.deliver ‹_› _ _
    · exact h.post _
  · exact h
  · exact h

end

/-! ### Acks -/

theorem Position.busied_rank (e : Seq) (p : Position) : (p.busied e).phase.rank = p.phase.rank := by
  obtain ⟨payload, seq, phase⟩ := p
  cases phase <;> simp only [Position.busied] <;> (try split) <;> rfl

theorem Position.busied_fits {c : LaneConfig} {served : Bool} {p : Position} (e : Seq) (h : p.fits c served = true) :
    (p.busied e).fits c served = true := by
  obtain ⟨payload, seq, phase⟩ := p
  cases phase with
  | sent st r d el =>
    simp only [Position.busied]
    split
    · simp only [Position.fits] at h ⊢
      simp_all
    · exact h
  | _ => exact h

section
variable {s : State} (h : s.Live)
include h

theorem State.Live.ackFree (l : Nat) (e : Seq) : (s.ackFree l e).Live := by
  have freed : State.Live (s.setLane l { s.lane l with
      positions := (s.lane l).positions.filter (fun p => !p.coveredBy e)
      busyCount := if ((s.lane l).positions.filter (·.coveredBy e)).isEmpty then (s.lane l).busyCount else 0 }) := by
    refine h.setLane l ((h.lane l).fewer List.filter_sublist ?_)
    split
    · exact (h.lane l).count
    · exact Nat.zero_le _
  simp only [State.ackFree]
  split
  · exact freed.postAll _
  · exact freed

theorem State.Live.ackBusy (l : Nat) (e : Seq) (unicast : (s.lane l).Unicast) : (s.ackBusy l e).Live := by
  have busied : State.Live (s.setLane l { s.lane l with
      positions := (s.lane l).positions.map (Position.busied e)
      busyHold := 2
      busyCount := min ((s.lane l).busyCount + 1) 64 }) :=
    h.setLane l ((h.lane l).mapPositions (Position.busied_rank e) (fun c _ p _ fits => Position.busied_fits e fits)
      (Nat.le_refl _) (Nat.min_le_right ..))
  simp only [State.ackBusy]
  split
  · split
    · refine busied.haltLane l _ ?_
      rw [State.lane_setLane]
      split
      · exact unicast
      · exact unicast
    · exact busied
  · exact h

theorem State.Live.applyAck (p : Nat) (a : AckEntry) : (s.applyAck p a).Live := by
  unfold State.applyAck
  split
  · split
    · rename_i l found
      have selected := List.find?_some found
      have unicast : (s.lane l).Unicast := TxLane.isTo_unicast (Bool.and_eq_true_iff.1 selected).1
      have free := h.ackFree l a.next
      dsimp only
      split
      · refine free.ackBusy l _ ?_
        obtain ⟨c, config, apart⟩ := unicast
        refine ⟨c, ?_, apart⟩
        have kept : ((s.ackFree l a.next).lane l).config = (s.lane l).config := by
          have used : l < s.tx.lanes.length := by
            have ranges := List.mem_range.1 (List.mem_of_find?_eq_some (show (List.range 4).find? _ = some l from found))
            rw [h.sound.tx.length]; exact ranges
          rw [State.lane_ackFree config used]
          rfl
        exact kept.trans config
      · exact free
    · exact h
  · exact h

end

end Sys2Proof.Machine

/-!
PROOFS. What the frames heard keep of the blocks: the timing decision, the schedule unit's learning, the stages, and the
slot starts that pass.
-/

namespace Sys2Proof.Machine

/-! ### The timing decision -/

/-- A frame of the station's cycle code that passed the checks of R11 (R4, R11). -/
structure State.Matches (s : State) (f : Frame) : Prop where
  sender : 1 ≤ f.header.sender ∧ f.header.sender ≤ 62
  other : f.header.sender ≠ s.station.address
  slot : f.header.slot < s.slotCount
  channel : ∀ acks k, f.body = .data acks (some k) → k.channel < 4

theorem CycleCode.slot_lt {code : CycleCode} {b : FrameBody} {n : Nat} (fits : b.slotFits code n = true) : n < code.slots := by
  have counts : code.scheduled + 2 = code.slots := by cases code <;> rfl
  cases b <;> simp only [FrameBody.slotFits, Bool.or_eq_true, beq_iff_eq, decide_eq_true_eq] at fits <;> omega

theorem State.Matches.of_read {s : State} {bytes : List Byte} {ragged : Bool} {f : Frame}
    (read : Frame.read s.station.address bytes ragged = some f) (code : s.station.code = some f.header.code) :
    s.Matches f := by
  obtain ⟨one, most, other, fits⟩ := Frame.read_sender read
  obtain ⟨⟨-, -, -, -, valid⟩, -⟩ := Proofs.validFramePassesChecks s.station.address bytes ragged f read
  refine ⟨⟨one, most⟩, other, ?_, fun acks k body => ?_⟩
  · simp only [State.slotCount, code]
    exact CycleCode.slot_lt fits
  · simp only [Frame.validFor, FrameBody.inRange, body, Bool.and_eq_true, decide_eq_true_eq] at valid
    exact valid.1.1.1.1.1.2.1.1.2

theorem CycleTimer.absencesDue_sublist {t u : CycleTimer} (fewer : u.due.Sublist t.due) :
    u.absencesDue.Sublist t.absencesDue := fewer.filterMap _

theorem Position.renewDeadline_rank (cycle : CycleNum) (p : Position) : (p.renewDeadline cycle).phase.rank = p.phase.rank := by
  obtain ⟨payload, seq, phase⟩ := p
  cases phase <;> rfl

theorem Position.renewDeadline_fits (cycle : CycleNum) (c : LaneConfig) (served : Bool) (p : Position) :
    (p.renewDeadline cycle).fits c served = p.fits c served := by
  obtain ⟨payload, seq, phase⟩ := p
  cases phase <;> rfl

section
variable {s : State} (h : s.Live) {hd : Header} (slot : hd.slot < s.slotCount)
include h

theorem State.Live.setStationCounts {c : StationControl} (life : c.life = s.station.life)
    (address : c.address = s.station.address) (code : c.code = s.station.code) (listen : c.listenCount ≤ 2)
    (leave : c.leaveCount ≤ 8) : State.Live { s with station := c } := by
  have on : c.life.onLink = true := life ▸ h.on
  exact ⟨h.sound.setStation h.on on address code listen leave fun joined => by rw [s.serves_iff, ← life]; simpa using joined, on⟩

theorem State.Live.setReference {r : Nat} (below : r ≤ s.station.address) : State.Live { s with timer.reference := r } :=
  h.setTimer { h.timer with reference := below }

theorem State.Live.postReference (r : Nat) (resync : Bool) : (s.postReference r resync).Live := by
  unfold State.postReference
  split
  · exact h
  · exact h.post _

include slot

theorem State.Live.takeTiming : (s.takeTiming hd).Live :=
  (h.setTimer (timer := { s.timer with
      position := hd.slot, cycle := hd.cycle, phase := .running, lastSlot := none
      due := s.timer.due.filter (!·.renewed) })
    ⟨h.timer.hold, h.timer.reference, fun _ => slot, nofun,
      h.timer.absences.sublist (CycleTimer.absencesDue_sublist List.filter_sublist)⟩).setLine h.sound.line

theorem State.Live.resync : (s.resync hd).Live := by
  have freed := (h.takeTiming slot).freeEntries fun e => e.peer?.isSome
  have renewed := freed.mapLanes (f := fun t => { t with positions := t.positions.map (Position.renewDeadline hd.cycle) })
    fun t fits => fits.mapPositions (Position.renewDeadline_rank _)
      (fun c _ p _ held => by rwa [Position.renewDeadline_fits]) fits.hold fits.count
  simp only [State.resync]
  split
  · exact renewed.setStationCounts rfl rfl rfl h.sound.station.listen h.sound.station.leave
  · exact renewed.setTimer { renewed.timer with hold := Nat.le_refl _ }

theorem State.Live.adopt : (s.adopt hd).Live := by
  have taken := h.takeTiming slot
  have below : (if s.candidate hd < s.station.address then s.candidate hd else s.station.address) ≤ s.station.address := by
    split <;> omega
  exact (taken.setTimer (timer := { (s.takeTiming hd).timer with
    acquired := true
    reference := if s.candidate hd < s.station.address then s.candidate hd else s.station.address })
    { taken.timer with reference := below }).setStationCounts (c := { s.station with restartMark := true })
      rfl rfl rfl h.sound.station.listen h.sound.station.leave

theorem State.Live.decideTiming (arrives : Bool) : (s.decideTiming hd arrives).1.Live := by
  have lower := h.sound.timer.reference
  simp only [State.decideTiming]
  split_ifs with listening below known arrived same named
  · exact h.adopt slot
  · exact (h.setReference (by omega)).postReference _ _
  · exact (State.Live.resync (h.setReference (r := s.candidate hd) (by omega)) slot).postReference _ _
  · exact h
  · exact (h.resync slot).postReference _ _
  · exact h
  · exact h

end

theorem State.postReference_sched (s : State) (r : Nat) (resync : Bool) :
    (s.postReference r resync).station = s.station := by
  unfold State.postReference; split <;> simp

theorem State.decideTiming_name (s : State) (hd : Header) (arrives : Bool) :
    (s.decideTiming hd arrives).1.station.address = s.station.address
      ∧ (s.decideTiming hd arrives).1.station.code = s.station.code := by
  have resynced : ∀ t : State, (t.resync hd).station.address = t.station.address
      ∧ (t.resync hd).station.code = t.station.code := fun t => by simp only [State.resync]; split <;> exact ⟨rfl, rfl⟩
  simp only [State.decideTiming]
  split_ifs <;> simp [State.postReference_sched, resynced, State.adopt, State.takeTiming]

/-! ### Learning -/

section
variable (s : State)

theorem State.homePick_peers : s.homePick.peers = s.peers := by
  obtain ⟨_, -, -, h⟩ | ⟨-, ⟨-, h⟩ | ⟨-, h⟩⟩ := s.homePick_cases <;> rw [h]
  rw [State.post_peers]

theorem State.claimLost_peers : s.claimLost.peers = s.peers := by
  rw [State.claimLost_eq]
  split
  · rfl
  · rw [State.post_peers]
  · rw [State.homePick_peers]

/-- Presence as it was, or the move to OFFLINE. -/
theorem State.homeLost_peers : s.homeLost.peers = s.peers ∨ s.homeLost.station.life = .offline := by
  obtain ⟨n, -, h⟩ | ⟨-, ⟨-, h⟩ | ⟨-, t, rfl, h⟩ | ⟨-, h⟩⟩ := s.homeLost_cases <;> rw [h]
  · exact .inl rfl
  · exact .inr rfl
  · refine .inl ?_
    rw [State.homePick_peers, State.endClaim_peers]
    split <;> simp
  · exact .inl rfl

theorem State.lossNotice_peers (n : Nat) (e : Entry) :
    (s.lossNotice n e).peers = s.peers ∨ (s.lossNotice n e).station.life = .offline := by
  obtain ⟨b, f, k, -, t, stripped, h⟩ | ⟨b, f, r, w, -, h⟩ | ⟨-, h⟩ := s.lossNotice_cases n e <;> rw [h]
  · have same : t.peers = s.peers := by obtain rfl | rfl := stripped <;> simp
    refine .inl ?_
    split
    · exact same
    · rw [State.claimLost_peers]; exact same
  · split
    · obtain same | off := (s.post (.slotLost n .yielded)).homeLost_peers
      · exact .inl (same.trans (by simp))
      · exact .inr off
    · exact .inl (by simp)
  · exact .inl rfl

end

/-- A frame of this sender may own entries here. -/
structure State.Knows (s : State) (x : Nat) : Prop where
  range : 1 ≤ x ∧ x ≤ 62
  other : x ≠ s.station.address
  present : s.isPresentPeer x = true

theorem State.Knows.kept {s t : State} {x : Nat} (h : s.Knows x) (peers : t.peers = s.peers)
    (address : t.station.address = s.station.address) : t.Knows x :=
  ⟨h.range, by rw [address]; exact h.other, by rw [State.isPresentPeer_congr peers address]; exact h.present⟩

theorem State.Knows.fits_held {s : State} {x : Nat} (h : s.Knows x) : (Entry.peerHeld x 0).Fits s.station.address s.isPresentPeer :=
  ⟨by have := h.range; have := h.other; simp only [Entry.inRange, Bool.and_eq_true, decide_eq_true_eq, bne_iff_ne]; omega,
    fun y mem => by obtain rfl : x = y := by simpa [Entry.peer?] using mem
                    exact h.present⟩

theorem State.Knows.fits_pending {s : State} {x : Nat} (h : s.Knows x) :
    (Entry.peerPending x 6).Fits s.station.address s.isPresentPeer :=
  ⟨by have := h.range; have := h.other; simp only [Entry.inRange, Bool.and_eq_true, decide_eq_true_eq, bne_iff_ne]; omega,
    fun y mem => by obtain rfl : x = y := by simpa [Entry.peer?] using mem
                    exact h.present⟩

section
variable {s : State} (h : s.Live) {x : Nat}
include h

theorem State.Live.learnRelease (n : Nat) : (s.learnRelease x n).Live := by
  unfold State.learnRelease
  split
  · exact h.setEntry n Entry.fits_free
  · exact h

theorem State.Live.learnReleases (slots : List Nat) : (slots.foldl (fun s n => s.learnRelease x n) s).Live := by
  induction slots generalizing s with
  | nil => exact h
  | cons n slots ih => exact ih (h.learnRelease n)

variable (knows : s.Knows x)
include knows

theorem State.Live.learnData (n : Nat) : (s.learnData x n).Sound := by
  unfold State.learnData
  split
  · exact (h.setEntry n knows.fits_held).lossNotice n _
  · exact h.sound

/-- Each slot of a CLAIM leaves a station on the link that knows the sender still. -/
theorem State.Live.learnClaim (n : Nat) : (s.learnClaim x n).Live ∧ (s.learnClaim x n).Knows x := by
  have placed := h.setEntry n knows.fits_pending
  have foreign : ∀ e : Entry, (e.isOwn = true → e.isHeld = true) →
      ((s.setEntry n (.peerPending x 6)).lossNotice n e).Live ∧ ((s.setEntry n (.peerPending x 6)).lossNotice n e).Knows x :=
    fun e free => by
      rw [State.lossNotice_foreign _ n free]
      exact ⟨placed, knows.kept rfl rfl⟩
  have taken : ∀ e, s.entry n = e → (e.isOwn = true → e.isHeld = true) →
      ((s.setEntry n (.peerPending x 6)).lossNotice n (s.entry n)).Live
        ∧ ((s.setEntry n (.peerPending x 6)).lossNotice n (s.entry n)).Knows x := fun e entry free => entry ▸ foreign e free
  simp only [State.learnClaim]
  split
  · split
    · rename_i entry
      exact taken _ entry nofun
    · rename_i entry
      split
      · exact taken _ entry nofun
      · exact ⟨h, knows⟩
    · rename_i b f k entry
      split
      · rw [entry]
        refine ⟨placed.lossNotice_claiming n, knows.kept ?_ ?_⟩
        · obtain same | off := (s.setEntry n (.peerPending x 6)).lossNotice_peers n (.ownClaiming b f k)
          · exact same
          · have on := (placed.lossNotice_claiming n (b := b) (f := f) (k := k)).on
            rw [off] at on
            cases on
        · exact ((s.setEntry n (.peerPending x 6)).lossNotice_onward n (.ownClaiming b f k)).name.1
      · exact ⟨h, knows⟩
    all_goals exact ⟨h, knows⟩
  · exact ⟨h, knows⟩

theorem State.Live.learnClaims (slots : List Nat) : (slots.foldl (fun s n => s.learnClaim x n) s).Live := by
  induction slots generalizing s with
  | nil => exact h
  | cons n slots ih =>
    obtain ⟨live, still⟩ := h.learnClaim knows n
    exact ih live still

end

theorem State.Live.learn {s : State} (h : s.Live) {f : Frame} (known : f.body ≠ .leave → s.Knows f.header.sender) :
    (s.learn f).Sound := by
  obtain ⟨hd, body⟩ := f
  cases body with
  | data acks packet => exact h.learnData (known nofun) hd.slot
  | claim slots => exact (h.learnClaims (known nofun) _).sound
  | release slots => exact (h.learnReleases _).sound
  | leave => exact (h.freeEntries _).sound

/-! ### Delivery -/

section
variable {s : State} (h : s.Live)
include h

theorem State.Live.applyAcks (p : Nat) (acks : List AckEntry) : (acks.foldl (fun s a => s.applyAck p a) s).Live := by
  induction acks generalizing s with
  | nil => exact h
  | cons a acks ih => exact ih (h.applyAck p a)

end

theorem State.ackFree_peers (s : State) (l : Nat) (e : Seq) : (s.ackFree l e).peers = s.peers := by
  simp only [State.ackFree]; split <;> simp

theorem State.ackBusy_peers (s : State) (l : Nat) (e : Seq) : (s.ackBusy l e).peers = s.peers := by
  simp only [State.ackBusy]; split <;> (try split) <;> simp

theorem State.applyAck_peers (s : State) (p : Nat) (a : AckEntry) : (s.applyAck p a).peers = s.peers := by
  unfold State.applyAck
  split
  · split
    · dsimp only
      split
      · rw [State.ackBusy_peers, State.ackFree_peers]
      · rw [State.ackFree_peers]
    · rfl
  · rfl

theorem State.applyAcks_peers (p : Nat) (acks : List AckEntry) (s : State) :
    (acks.foldl (fun s a => s.applyAck p a) s).peers = s.peers
      ∧ (acks.foldl (fun s a => s.applyAck p a) s).station = s.station := by
  induction acks generalizing s with
  | nil => exact ⟨rfl, rfl⟩
  | cons a acks ih =>
    obtain ⟨peers, station⟩ := ih (s.applyAck p a)
    exact ⟨peers.trans (s.applyAck_peers p a), station.trans (congrArg Prod.fst (s.applyAck_stationTimer p a))⟩

theorem State.judge_peers (s : State) (p : Nat) (k : Packet) : (s.judge p k).peers = s.peers := by
  have inOrder : ∀ (s : State) e, (s.judgeInOrder p k e).peers = s.peers := fun s e => by
    unfold State.judgeInOrder; split_ifs <;> rfl
  unfold State.judge
  split_ifs
  · unfold State.judgeUnicast
    split
    · split_ifs
      · rfl
      · rw [inOrder]; rfl
    · rw [inOrder]; rfl
    · rw [inOrder]
    · rfl
  · unfold State.judgeBroadcast
    split
    · rfl
    · rw [State.post_peers]
  · rfl
  · rfl

theorem State.takeDelivery_peers (s : State) (f : Frame) : (s.takeDelivery f).peers = s.peers := by
  unfold State.takeDelivery
  split
  · dsimp only
    split
    · rw [State.judge_peers]; exact (State.applyAcks_peers _ _ s).1
    · exact (State.applyAcks_peers _ _ s).1
  · rfl

theorem State.Live.takeDelivery {s : State} (h : s.Live) {f : Frame} (knows : s.Knows f.header.sender)
    (channel : ∀ acks k, f.body = .data acks (some k) → k.channel < 4) : (s.takeDelivery f).Live := by
  obtain ⟨hd, body⟩ := f
  unfold State.takeDelivery
  cases body with
  | data acks packet =>
    have acked := h.applyAcks hd.sender acks
    obtain ⟨peers, station⟩ := State.applyAcks_peers hd.sender acks s
    cases packet with
    | none => exact acked
    | some k => exact acked.judge (knows.kept peers (congrArg _ station)).present (channel acks k rfl)
  | _ => exact h

/-! A station gone OFFLINE has nothing to deliver. -/

theorem State.clean_positions {s : State} (h : s.Sound) (off : s.station.life.onLink = false) (l : Nat) :
    (s.lane l).positions = [] := by
  obtain ⟨-, -, -, -, -, -, -, -, -, -, -, lanes, -⟩ := h.clean off
  obtain mem | default := s.lane_mem l
  · rw [lanes _ mem]; rfl
  · rw [default]

theorem State.setLane_lane (s : State) (l : Nat) : s.setLane l (s.lane l) = s := by
  have same : s.tx.lanes.set l (s.lane l) = s.tx.lanes := by
    by_cases used : l < s.tx.lanes.length
    · simp [State.lane, used]
    · exact List.set_eq_of_length_le (Nat.le_of_not_lt used)
  rw [State.setLane, same]

theorem State.applyAck_offLink {s : State} (h : s.Sound) (off : s.station.life.onLink = false) (p : Nat) (a : AckEntry) :
    s.applyAck p a = s := by
  have freed : ∀ l e, s.ackFree l e = s := fun l e => by
    have empty := State.clean_positions h off l
    have same : ({ s.lane l with positions := [], busyCount := (s.lane l).busyCount } : TxLane) = s.lane l := by rw [← empty]
    simp only [State.ackFree, empty, List.filter_nil, List.isEmpty_nil, if_true, same, State.setLane_lane, List.map_nil,
      State.postAll, List.foldl_nil, ite_self]
  have busied : ∀ l e, s.ackBusy l e = s := fun l e => by
    simp only [State.ackBusy, State.clean_positions h off l, List.any_nil, Bool.false_eq_true, if_false]
  unfold State.applyAck
  split
  · split
    · simp only [freed, busied, ite_self]
    · rfl
  · rfl

theorem State.takeDelivery_offLink {s : State} (h : s.Sound) (off : s.station.life.onLink = false) (f : Frame) :
    s.takeDelivery f = s := by
  have acked : ∀ acks : List AckEntry, acks.foldl (fun s a => s.applyAck f.header.sender a) s = s := fun acks => by
    induction acks with
    | nil => rfl
    | cons a acks ih => rw [List.foldl_cons, State.applyAck_offLink h off]; exact ih
  have judged : ∀ k, s.judge f.header.sender k = s := fun k => by
    have away : (s.station.life == .joined) = false := by cases life : s.station.life <;> simp_all [StationState.onLink]
    simp only [State.judge, away, Bool.false_eq_true, if_false]
  unfold State.takeDelivery
  split
  · simp only [acked, judged]
    split <;> rfl
  · rfl

/-! ### The stages -/

theorem State.learn_peers (s : State) {f : Frame} (data : ∃ acks packet, f.body = .data acks packet) :
    (s.learn f).peers = s.peers ∨ (s.learn f).station.life = .offline := by
  obtain ⟨hd, body⟩ := f
  obtain ⟨acks, packet, rfl⟩ := data
  change (s.learnData hd.sender hd.slot).peers = s.peers ∨ (s.learnData hd.sender hd.slot).station.life = .offline
  unfold State.learnData
  split
  · exact (s.setEntry hd.slot (.peerHeld hd.sender 0)).lossNotice_peers _ _
  · exact .inl rfl

section
variable {s : State} (h : s.Live) {f : Frame} (matching : s.Matches f)
include h matching

theorem State.Live.acceptMatching (span : FrameSpan) (arrives : Bool) : (s.acceptMatching f span arrives).Sound := by
  have decided := h.decideTiming matching.slot arrives
  have name := s.decideTiming_name f.header arrives
  obtain ⟨timing, data, v, -, rfl, cases⟩ := s.acceptMatching_cases f span arrives
  have reported : State.Live (State.report (s.decideTiming f.header arrives).1 span (heardInSlot span timing) data) := by
    rw [State.report_eq]
    refine decided.setLine ?_
    unfold State.heard
    split
    · exact decided.sound.line
    · split <;> exact decided.sound.line
  have other : f.header.sender
      ≠ (State.report (s.decideTiming f.header arrives).1 span (heardInSlot span timing) data).station.address := by
    rw [State.report_eq]
    change f.header.sender ≠ (s.decideTiming f.header arrives).1.station.address
    rw [name.1]
    exact matching.other
  generalize State.report (s.decideTiming f.header arrives).1 span (heardInSlot span timing) data = v at *
  have heard := reported.peerHeard f.header.sender
  have knows : (v.peerHeard f.header.sender).Knows f.header.sender :=
    ⟨matching.sender, by rw [(State.clock_eq (v.peerHeard_clock f.header.sender)).1]; exact other,
      reported.peerHeard_known matching.sender other⟩
  obtain presence | ⟨-, ⟨leave, left⟩ | ⟨-, learned⟩ | ⟨body, n, first | second⟩⟩ := cases
  · rw [presence]
    exact heard.sound
  · rw [left]
    exact (reported.peerLeft f.header.sender).learn fun no => absurd leave no
  · rw [learned]
    exact heard.learn fun _ => knows
  · rw [first]
    refine State.Sound.setReads ?_ n
    have learned := heard.learn (f := f) fun _ => knows
    by_cases on : ((v.peerHeard f.header.sender).learn f).station.life.onLink = true
    · refine (State.Live.takeDelivery ⟨learned, on⟩ (knows.kept ?_ ?_) matching.channel).sound
      · obtain same | off := (v.peerHeard f.header.sender).learn_peers body
        · exact same
        · rw [off] at on; cases on
      · exact ((v.peerHeard f.header.sender).learn_onward f).name.1
    · rwa [State.takeDelivery_offLink learned (Bool.eq_false_iff.2 on)]
  · rw [second]
    have delivered := heard.takeDelivery knows matching.channel
    exact (delivered.learn fun _ => knows.kept (State.takeDelivery_peers _ f)
      (congrArg _ (State.takeDelivery_station _ f))).setReads n

end

/-- The report leaves the station on the link. -/
theorem State.Live.report {s : State} (h : s.Live) (span : FrameSpan) (counts : Bool) (x : Option Nat) :
    (s.report span counts x).Live := by
  rw [State.report_eq]
  refine h.setLine ?_
  unfold State.heard
  split
  · exact h.sound.line
  · split <;> exact h.sound.line

theorem State.Live.accept {s : State} (h : s.Live) {bytes : List Byte} {ragged : Bool} {f : Frame}
    (read : Frame.read s.station.address bytes ragged = some f) (span : FrameSpan) : (s.accept f span).Sound := by
  unfold State.accept
  split
  · exact h.sound
  · split
    · rename_i code
      exact h.acceptMatching (State.Matches.of_read read (by simpa using (beq_iff_eq.1 code).symm)) span _
    · exact ((h.report span _ _).peerMismatched _).sound

theorem State.active_of_receives {s : State} {span : FrameSpan} (h : s.receives span = true) : s.active = true := by
  unfold State.receives at h
  simp only [Bool.and_eq_true] at h
  exact h.1.1.1

theorem State.Sound.takeFrame {s : State} (h : s.Sound) {bytes : List Byte} {ragged : Bool} {f : Frame}
    (read : Frame.read s.station.address bytes ragged = some f) (span : FrameSpan) : (s.takeFrame f span).Sound := by
  unfold State.takeFrame
  split
  · rename_i hears
    have active := State.active_of_receives (Bool.and_eq_true_iff.1 hears).1
    exact State.Live.accept ⟨h, (s.active_iff.1 active).2⟩ read span
  · exact h

/-! ### Slot starts -/

theorem State.Live.markStart {s : State} (h : s.Live) : s.markStart.Live :=
  (h.setTimer (timer := { s.timer with phase := .running }) { h.timer with ended := nofun }).setLine h.sound.line

theorem State.Sound.takeUnderWay {s : State} (h : s.Sound) (bytes : List Byte) : (s.takeUnderWay bytes).Sound := by
  unfold State.takeUnderWay
  split
  · rename_i f read
    exact h.takeFrame read _
  · exact h

theorem State.Live.passStart {s : State} (h : s.Live) : s.passStart.Sound := by
  unfold State.passStart
  split
  · exact h.markStart.sound.takeUnderWay _
  · exact h.markStart.sound
  · exact h.markStart.sound

theorem State.Sound.startPassed {s : State} (h : s.Sound) : s.startPassed.Sound := by
  unfold State.startPassed
  split
  · rename_i starts
    exact State.Live.passStart ⟨h, (s.active_iff.1 (Bool.and_eq_true_iff.1 starts).1).2⟩
  · exact h

theorem State.startPassed_address (s : State) : s.startPassed.station.address = s.station.address := by
  unfold State.startPassed
  split
  · exact (s.passStart_marks).1
  · rfl

theorem State.Sound.receive {s : State} (h : s.Sound) (bytes : List Byte) (ragged : Bool) (span : FrameSpan) :
    (s.receive bytes ragged span).Sound := by
  unfold State.receive
  split
  · rename_i f read
    have ready : ∀ t : State, t.Sound → t.station.address = s.station.address →
        (if t.waits span then { t with line.atStart := some (.underWay bytes) } else t.takeFrame f span).Sound :=
      fun t sound address => by
        split
        · rename_i waits
          have active := State.active_of_receives (Bool.and_eq_true_iff.1 waits).1
          exact sound.setLine (t.active_iff.1 active).2 sound.line
        · exact sound.takeFrame (address ▸ read) span
    dsimp only
    split
    · exact ready s h rfl
    · exact ready s.startPassed h.startPassed s.startPassed_address
  · exact h

/-- An offer at a slot start that keeps the blocks in order on the link. -/
theorem State.Live.startWith {s : State} (h : s.Live) {offer : State → State} (kept : ∀ t : State, t.Live → (offer t).Sound) :
    (s.startWith offer).Sound := by
  unfold State.startWith
  split
  · exact kept _ h.markStart
  · split
    · exact h.markStart.sound
    · exact kept _ h.markStart
  · exact (kept _ h.markStart).takeUnderWay _

end Sys2Proof.Machine

/-!
PROOFS. What the counts keep of the blocks: their last steps, the slot end and the cycle start.
-/

namespace Sys2Proof.Machine

/-! ### One position changed -/

/-- A list stays in order where one element goes for another that fits its place. -/
theorem List.pairwise_set {α : Type} {R : α → α → Prop} {l : List α} (order : l.Pairwise R) (i : Nat) {x : α}
    (before : ∀ j (hj : j < l.length), j < i → R l[j] x) (behind : ∀ j (hj : j < l.length), i < j → R x l[j]) :
    (l.set i x).Pairwise R := by
  rw [List.pairwise_iff_getElem] at order ⊢
  intro j k hj hk less
  rw [List.length_set] at hj hk
  rw [List.getElem_set, List.getElem_set]
  split_ifs with first second second
  · omega
  · exact behind k hk (by omega)
  · exact before j hj (by omega)
  · exact order j k hj hk less

/-- A position that is not LOADING goes for another in the same lane, no later in the order. -/
theorem TxLane.Fits.setPosition {t : TxLane} {serves : Bool} (h : t.Fits serves) (i : Nat) {x : Position}
    (before : ∀ j (hj : j < t.positions.length), j < i → t.positions[j].phase.rank ≤ x.phase.rank)
    (own : ∀ hi : i < t.positions.length, x.phase.rank ≤ t.positions[i].phase.rank) (loaded : x.phase ≠ .loading)
    (fits : ∀ c ∈ t.config, x.fits c (serves && t.ready) = true) :
    TxLane.Fits serves { t with positions := t.positions.set i x } := by
  obtain ⟨hold, count, within, order, disabled, held⟩ := h
  refine ⟨hold, count, by simpa [TxLane.depth] using within, ?_, disabled, fun c config =>
    ⟨fun p mem => (List.mem_or_eq_of_mem_set mem).elim ((held c config).1 p) fun same => same ▸ fits c config, (held c config).2⟩⟩
  · by_cases inLane : i < t.positions.length
    · refine List.pairwise_set order i (fun j hj less => ⟨before j hj less, ?_⟩) fun j hj less => ⟨?_, loaded⟩
      · exact ((List.pairwise_iff_getElem.1 order) j i hj inLane less).2
      · exact Nat.le_trans (own inLane) ((List.pairwise_iff_getElem.1 order) i j inLane hj less).1
    · rw [List.set_eq_of_length_le (Nat.le_of_not_lt inLane)]
      exact order

theorem Position.makeEligible_sent {p : Position} {cycle : CycleNum} (reached : p.reached cycle = true) :
    ∃ payload seq start retries deadline, p = ⟨payload, seq, .sent start retries deadline false⟩
      ∧ p.makeEligible = ⟨payload, seq, .sent start retries deadline true⟩ := by
  obtain ⟨payload, seq, phase⟩ := p
  cases phase with
  | sent st r d el =>
    have fresh : el = false := by
      simp only [Position.reached, Bool.and_eq_true, Bool.not_eq_true'] at reached
      exact reached.1
    exact ⟨payload, seq, st, r, d, by rw [fresh], rfl⟩
  | _ => cases reached

/-! ### The last step of a count -/

theorem Entry.fits_silentStep {own : Nat} {present : Nat → Bool} {e : Entry} (fits : e.Fits own present) :
    e.silentStep.Fits own present := by
  cases e with
  | peerHeld x k =>
    simp only [Entry.silentStep]
    split
    · refine ⟨?_, fits.2⟩
      have range := fits.1
      simp only [Entry.inRange, Bool.and_eq_true, decide_eq_true_eq] at range ⊢
      exact ⟨range.1, by omega⟩
    · exact Entry.fits_free
  | _ => exact fits

theorem Entry.fits_windowStep {own : Nat} {present : Nat → Bool} {e : Entry} (fits : e.Fits own present) :
    e.windowStep.Fits own present := by
  cases e with
  | ownYielding b f r w =>
    have range := fits.1
    simp only [Entry.inRange, Bool.and_eq_true, decide_eq_true_eq] at range
    obtain ⟨⟨⟨⟨lane, one⟩, two⟩, -⟩, eight⟩ := range
    simp only [Entry.windowStep]
    split
    · exact Entry.fits_own rfl (by simp [Entry.inRange, lane]; omega)
    · exact Entry.fits_own rfl (by simp [Entry.inRange, lane]; omega)
  | _ => exact fits

theorem Entry.fits_expiryStep {own : Nat} {present : Nat → Bool} {e : Entry} (fits : e.Fits own present) :
    e.expiryStep.Fits own present := by
  cases e with
  | peerPending x k =>
    simp only [Entry.expiryStep]
    split
    · refine ⟨?_, fits.2⟩
      have range := fits.1
      simp only [Entry.inRange, Bool.and_eq_true, decide_eq_true_eq] at range ⊢
      exact ⟨⟨range.1.1, by omega⟩, by omega⟩
    · exact Entry.fits_free
  | _ => exact fits

theorem Entry.fits_barStep {own : Nat} {present : Nat → Bool} {e : Entry} (fits : e.Fits own present) :
    e.barStep.Fits own present := by
  cases e with
  | barred k =>
    simp only [Entry.barStep]
    split
    · refine ⟨?_, nofun⟩
      have range := fits.1
      simp only [Entry.inRange, Bool.and_eq_true, decide_eq_true_eq] at range ⊢
      omega
    · exact Entry.fits_free
  | _ => exact fits

theorem Entry.fits_settleDown {own : Nat} {present : Nat → Bool} {e : Entry} (fits : e.Fits own present)
    (lasts : e.settles = false) : e.settleDown.Fits own present := by
  obtain ⟨range, peer⟩ := fits
  unfold Entry.settleDown
  split
  · refine Entry.fits_own rfl ?_
    simp only [Entry.settles, decide_eq_false_iff_not] at lasts
    simp only [Entry.inRange, Bool.and_eq_true, decide_eq_true_eq] at range ⊢
    exact ⟨range.1, by omega⟩
  · exact ⟨range, peer⟩

theorem TxLane.Fits.setHold {t : TxLane} {serves : Bool} (h : t.Fits serves) {hold : Nat} (low : hold ≤ 2) :
    TxLane.Fits serves { t with busyHold := hold } := ⟨low, h.count, h.ordered⟩

section
variable {s : State} (h : s.Live)
include h

theorem State.Live.stepEntry (n : Nat) {f : Entry → Entry} (fits : ∀ {own : Nat} {present : Nat → Bool} {e : Entry},
    e.Fits own present → (f e).Fits own present) : (s.stepEntry n f).Live :=
  h.setEntry n (fits (h.entry n))

theorem State.Live.settleEntries (lasts : s.sched.slots.any Entry.settles = false) (claim : Option Claim) :
    State.Live { s with sched := ⟨s.sched.slots.map Entry.settleDown, claim⟩ } := by
  refine h.setSlots (fun e mem => ?_) (List.length_map _)
  obtain ⟨e', mem', rfl⟩ := List.mem_map.1 mem
  exact Entry.fits_settleDown (h.sound.slots.entries e' mem') (by simpa using List.any_eq_false.1 lasts e' mem')

theorem State.Live.settleStep : s.settleStep.Live := by
  unfold State.settleStep
  split
  · exact h.setClaim _
  · split
    · exact h.winClaim
    · rename_i lasts
      exact h.settleEntries (by simpa using lasts) _
  · exact h

theorem State.Live.listenStep : s.listenStep.Live := by
  have low := h.sound.station.listen
  unfold State.listenStep
  split_ifs
  · exact h.setStationCounts rfl rfl rfl (Nat.le_refl 2) h.sound.station.leave
  · exact h.setStationCounts (c := { s.station with listenCount := s.station.listenCount - 1 }) rfl rfl rfl (by dsimp only; omega)
      h.sound.station.leave
  · exact (h.setStationCounts (c := { s.station with listenCount := 0 }) rfl rfl rfl (Nat.zero_le _)
      h.sound.station.leave).homePick
  · exact h

theorem State.Live.waitingStep : s.waitingStep.Live := by
  unfold State.waitingStep
  split
  · exact h.homePick
  · exact h

theorem State.Live.leaveStep : s.leaveStep.Sound := by
  have low := h.sound.station.leave
  unfold State.leaveStep
  split_ifs
  · exact (h.setStationCounts (c := { s.station with leaveCount := s.station.leaveCount - 1 }) rfl rfl rfl
      h.sound.station.listen (by dsimp only; omega)).sound
  · rw [State.moveOffline_eq]
    exact h.offLink _
  · exact h.sound

theorem State.Live.relearnStep : s.relearnStep.Live :=
  h.setTimer { h.timer with hold := Nat.le_trans (Nat.sub_le ..) h.timer.hold }

theorem State.Live.busyStep (l : Nat) : (s.busyStep l).Live :=
  h.setLane l ((h.lane l).setHold (Nat.le_trans (Nat.sub_le ..) (h.lane l).hold))

theorem State.Live.deadlineStep (l : Nat) (q : Seq) : (s.deadlineStep l q).Live := by
  unfold State.deadlineStep
  split
  · exact h
  · rename_i i found
    obtain ⟨inLane, reached, -⟩ := List.findIdx?_eq_some_iff_getElem.1 found
    obtain ⟨payload, seq, start, retries, deadline, at_i, eligible⟩ :=
      Position.makeEligible_sent (Bool.and_eq_true_iff.1 reached).1
    have fits := h.lane l
    obtain ⟨c, config⟩ : ∃ c, (s.lane l).config = some c := by
      by_contra none
      have disabled : (s.lane l).config = Option.none := Option.eq_none_iff_forall_ne_some.2 fun c config => none ⟨c, config⟩
      have within := fits.ordered.1
      simp only [TxLane.depth, disabled] at within
      omega
    have held := (fits.ordered.2.2.2 c config).1 _ (List.getElem_mem inLane)
    rw [at_i] at held
    simp only [Position.fits, Bool.and_eq_true, bne_iff_ne] at held
    split
    · exact h.haltLane l _ ⟨c, config, held.2.1.1.2⟩
    · rename_i below
      dsimp only
      rw [List.modify_eq_set_get _ inLane, List.get_eq_getElem]
      refine h.setLane l (fits.setPosition i (fun j hj less => ?_) (fun _ => ?_) ?_ fun c' config' => ?_)
      · rw [eligible]
        have order := (List.pairwise_iff_getElem.1 fits.ordered.2.1) j i hj inLane less
        rw [at_i] at order
        exact order.1
      · rw [eligible, at_i]
        exact Nat.le_refl _
      · rw [eligible]
        exact nofun
      · rw [config] at config'
        obtain rfl := Option.some.inj config'
        have limit : ¬ (s.serves = true ∧ 6 ≤ retries) := by
          simpa [State.atLimit, inLane, at_i, Position.spent] using below
        rw [eligible]
        simp only [Position.fits, Bool.and_eq_true, bne_iff_ne]
        refine ⟨held.1, ⟨held.2.1, ?_⟩⟩
        cases serves : s.serves with
        | false => rfl
        | true =>
          have few : retries ≤ 5 := by
            have := mt (And.intro serves) limit
            omega
          simp [few]

theorem State.Live.dueStep (d : Due) : (s.dueStep d).Sound := by
  cases d with
  | lapse n => exact (h.stepEntry n Entry.fits_silentStep).sound
  | yieldEnd n => exact (h.stepEntry n Entry.fits_windowStep).sound
  | pendingExpiry n => exact (h.stepEntry n Entry.fits_expiryStep).sound
  | barExpire n => exact (h.stepEntry n Entry.fits_barStep).sound
  | settle => exact h.settleStep.sound
  | listenEnd => exact h.listenStep.sound
  | waitingPick => exact h.waitingStep.sound
  | leaveTimeout => exact h.leaveStep
  | absence p => exact (h.peerStep p).sound
  | deadline l q => exact (h.deadlineStep l q).sound
  | relearnHold => exact h.relearnStep.sound
  | busyHold l => exact (h.busyStep l).sound

end

theorem State.Sound.takeDue {s : State} (h : s.Sound) (d : Due) : (s.takeDue d).Sound := by
  by_cases due : d ∈ s.timer.due
  · rw [State.takeDue_mem due]
    have on : s.station.life.onLink = true := by
      by_contra off
      have stopped := (h.clean (Bool.eq_false_iff.2 off)).1
      rw [stopped] at due
      cases due
    have live : s.Live := ⟨h, on⟩
    exact (live.setTimer (timer := { s.timer with due := s.timer.due.erase d }) { live.timer with
      absences := live.timer.absences.sublist (CycleTimer.absencesDue_sublist List.erase_sublist) }).dueStep d
  · rwa [State.takeDue_absent due]

theorem State.Sound.foldl_takeDue {s : State} (h : s.Sound) (due : List Due) : (due.foldl State.takeDue s).Sound := by
  induction due generalizing s with
  | nil => exact h
  | cons d due ih => exact ih (h.takeDue d)

theorem State.Sound.catchUp {s : State} (h : s.Sound) : s.catchUp.Sound := h.foldl_takeDue _

theorem State.Sound.ifActive {s : State} (h : s.Sound) {f : State → State} (kept : s.Live → (f s).Sound) :
    (s.ifActive f).Sound := by
  unfold State.ifActive
  split
  · rename_i active
    exact kept ⟨h, (s.active_iff.1 active).2⟩
  · exact h

/-! ### The slot end -/

/-- Counts that become due and are no absences. -/
theorem State.Live.appendDue {s : State} (h : s.Live) {d : Due} (other : d.absentPeer = none) :
    State.Live { s with timer.due := s.timer.due ++ [d] } := by
  refine h.setTimer { h.timer with absences := ?_ }
  have order := h.timer.absences
  rw [CycleTimer.absencesDue_eq] at order ⊢
  simpa [List.filterMap_append, other] using order

theorem State.Live.countSlot {s : State} (h : s.Live) (n : Nat) : (s.countSlot n).Live := by
  unfold State.countSlot
  split
  · split_ifs
    · exact h
    · exact h.stepEntry n Entry.fits_silentStep
    · exact h.appendDue rfl
  · split_ifs
    · exact h
    · exact h.stepEntry n Entry.fits_windowStep
    · exact h.appendDue rfl
  · exact h

theorem State.countSlot_frame (s : State) (n : Nat) : (s.countSlot n).station = s.station
    ∧ (s.countSlot n).timer.position = s.timer.position := by
  unfold State.countSlot
  split <;> (try split_ifs) <;> exact ⟨rfl, rfl⟩

theorem State.Live.endSlot {s : State} (h : s.Live) : s.endSlot.Live := by
  have counted := h.countSlot s.timer.position
  obtain ⟨station, position⟩ := s.countSlot_frame s.timer.position
  have slots : (s.countSlot s.timer.position).slotCount = s.slotCount := by simp only [State.slotCount, station]
  have here : s.timer.position < s.slotCount := h.timer.position rfl
  simp only [State.endSlot]
  generalize s.countSlot s.timer.position = t at *
  refine (counted.setTimer (timer := { t.timer with
      lastSlot := some (t.timer.position, t.timer.cycle)
      position := if !decide (t.timer.position + 1 < t.slotCount) then t.timer.position else t.timer.position + 1
      phase := if !decide (t.timer.position + 1 < t.slotCount) then .ended else .starting })
    ⟨counted.timer.hold, counted.timer.reference, fun _ => ?_, fun ended => ?_, counted.timer.absences⟩).setLine
      (line := t.line.newSlot) counted.sound.line
  · by_cases last : t.timer.position + 1 < t.slotCount
    · simp [last]
    · simp only [last, decide_false, Bool.not_false, if_true]
      omega
  · by_cases last : t.timer.position + 1 < t.slotCount
    · simp [last] at ended
    · simp only [last, decide_false, Bool.not_false, if_true]
      omega

theorem State.Sound.slotEnd {s : State} (h : s.Sound) : s.slotEnd.Sound := by
  unfold State.slotEnd
  split
  · exact h.startPassed.ifActive fun live => live.sound.catchUp.ifActive fun live => live.endSlot.sound
  · exact h

/-! ### The cycle start -/

theorem Entry.fits_cycleStep {own : Nat} {present : Nat → Bool} {e : Entry} (fits : e.Fits own present) :
    e.cycleStep.Fits own present := by
  unfold Entry.cycleStep
  split
  · split
    · exact Entry.fits_expiryStep fits
    · exact fits
  · split
    · exact Entry.fits_barStep fits
    · exact fits
  · exact fits

theorem State.Live.settled {s : State} (h : s.Live) : State.Live { s with sched := s.sched.settled } := by
  unfold Schedule.settled
  split
  · exact h.setClaim _
  · split
    · exact h
    · rename_i lasts
      exact h.settleEntries (by simpa using lasts) _
  · exact h

theorem stepPeers_fits (own a : Nat) {peers : List Peer} (silence : ∀ r ∈ peers, r.silence ≤ 16) :
    (stepPeers own a peers).length = peers.length ∧ ∀ r ∈ stepPeers own a peers, r.silence ≤ 16 := by
  induction peers generalizing a with
  | nil => exact ⟨rfl, nofun⟩
  | cons r peers ih =>
    obtain ⟨length, rest⟩ := ih (a + 1) fun r' mem => silence r' (List.mem_cons_of_mem _ mem)
    refine ⟨congrArg (· + 1) length, fun r' mem => ?_⟩
    obtain rfl | mem := List.mem_cons.1 mem
    · rw [Peer.cycleStep_eq]
      have := silence r List.mem_cons_self
      dsimp only
      split <;> omega
    · exact rest r' mem

theorem State.Live.stepPeers {s : State} (h : s.Live) :
    State.Live { s with peers := stepPeers s.station.address 1 s.peers } := by
  obtain ⟨length, silence⟩ := stepPeers_fits s.station.address 1 h.sound.peers.silence
  refine ⟨h.sound.setPeers h.on ⟨length.trans h.sound.peers.length, silence⟩ fun a known => ?_, h.on⟩
  obtain ⟨one, most, other, present⟩ := (s.isPresentPeer_iff a).1 known
  refine (State.isPresentPeer_iff _ a).2 ⟨one, most, other, ?_⟩
  unfold State.peer at present ⊢
  rw [stepPeers_getD, Peer.cycleStep_eq]
  exact present

theorem TxLane.Fits.heldOn {t : TxLane} {serves : Bool} (h : t.Fits serves) : t.heldOn.Fits serves := by
  refine ⟨?_, h.count, h.ordered⟩
  have := h.hold
  simp only [TxLane.heldOn]
  split <;> omega

theorem StationControl.counted_fits {c : StationControl} (h : c.Fits) :
    c.counted.life = c.life ∧ c.counted.address = c.address ∧ c.counted.code = c.code ∧ c.counted.listenCount ≤ 2
      ∧ c.counted.leaveCount ≤ 8 := by
  have listen := h.listen
  have leave := h.leave
  refine ⟨rfl, rfl, rfl, ?_, ?_⟩ <;> simp only [StationControl.counted] <;> split_ifs <;> omega

theorem State.Live.cycleCounts {s : State} (h : s.Live) : s.cycleCounts.Live := by
  obtain ⟨life, address, code, listen, leave⟩ := StationControl.counted_fits h.sound.station
  have entries := (h.mapSlots (fun _ fits => Entry.fits_cycleStep fits) s.sched.claim).settled
  have peers := entries.stepPeers
  have lanes := peers.mapLanes fun t fits => TxLane.Fits.heldOn fits
  have low : (if 1 < s.timer.relearnHold then s.timer.relearnHold - 1 else s.timer.relearnHold) ≤ 2 := by
    have := h.timer.hold
    split <;> omega
  have held := lanes.setTimer (timer := { s.timer with
    relearnHold := if 1 < s.timer.relearnHold then s.timer.relearnHold - 1 else s.timer.relearnHold })
    { lanes.timer with hold := low }
  rw [State.cycleCounts_eq]
  exact held.setStationCounts life address code listen leave

theorem State.Live.beginCycle {s : State} (h : s.Live) : s.beginCycle.Live :=
  (h.setTimer (timer := s.beginCycle.timer) ⟨h.timer.hold, h.timer.reference,
    fun _ => Nat.lt_of_le_of_lt (Nat.zero_le _) (h.timer.position rfl), nofun, h.timer.absences⟩).setLine
      (line := s.line.newSlot) h.sound.line

theorem State.Sound.cycleStart {s : State} (h : s.Sound) : s.cycleStart.Sound := by
  unfold State.cycleStart
  split
  · refine h.catchUp.ifActive fun live => ?_
    have counted := live.beginCycle.cycleCounts
    refine (counted.setTimer (timer := { s.catchUp.beginCycle.cycleCounts.timer with due := s.catchUp.beginCycle.cycleDues })
      { counted.timer with absences := ?_ }).sound
    rw [CycleTimer.absencesDue_eq, State.cycleDues_absences]
    exact State.absencesNow_sorted _
  · exact h

theorem State.Sound.absenceNext {s : State} (h : s.Sound) : s.absenceNext.Sound := by
  unfold State.absenceNext
  split
  · exact h.takeDue _
  · exact h

theorem State.Sound.deadlineNext {s : State} (h : s.Sound) (l : Nat) : (s.deadlineNext l).Sound := by
  unfold State.deadlineNext
  split
  · split
    · exact h
    · exact h.takeDue _
  · exact h

end Sys2Proof.Machine

/-!
PROOFS. What own frames and lane commands keep of the blocks: slot starts, readback results, and the lanes that the host
loads.
-/

namespace Sys2Proof.Machine

/-! ### The end of an own frame -/

theorem Entry.fits_announced {own : Nat} {present : Nat → Bool} {e : Entry} (fits : e.Fits own present) :
    e.announced.Fits own present := by
  cases e with
  | ownClaiming b f k =>
    have range : b.inRange = true := (Bool.and_eq_true_iff.1 fits.1).1
    exact Entry.fits_own rfl (by simp [Entry.announced, Entry.inRange, range])
  | _ => exact fits

theorem retryWindow_range (k : Nat) : retryWindow k ∈ [2, 4, 8, 16] ∧ 0 < retryWindow k := by
  unfold retryWindow
  split_ifs <;> decide

section
variable {s : State} (h : s.Live)
include h

theorem State.Live.dataResult (n : Nat) (r : Readback) : (s.dataResult n r).Sound := by
  have address := h.sound.station.address
  have fits := h.entry n
  unfold State.dataResult
  split
  · rename_i b f round entry
    rw [entry] at fits
    have range := fits.1
    simp only [Entry.inRange, Bool.and_eq_true, decide_eq_true_eq] at range
    obtain ⟨lane, rounds⟩ := range
    cases r with
    | clean => exact (h.setEntry n (Entry.fits_own rfl (by simp [Entry.inRange, lane]))).sound
    | failed =>
      dsimp only
      split
      · refine (h.setEntry n (Entry.fits_own rfl ?_)).sound
        simp only [Entry.inRange, lane, Bool.true_and, Bool.and_eq_true, decide_eq_true_eq]
        split <;> omega
      · have barred := (h.setEntry n (e := .barred 16) ⟨rfl, nofun⟩).postAll [.slotLost n .abandoned, .duplicateSuspect n]
        split
        · exact barred.homeLost
        · exact barred.sound
  · exact h.sound

theorem State.Live.mapEntries {f : Nat → Entry → Entry} (fits : ∀ n e, Entry.Fits s.station.address s.isPresentPeer e →
    (f n e).Fits s.station.address s.isPresentPeer) (claim : Option Claim) :
    State.Live { s with sched := ⟨s.sched.slots.mapIdx f, claim⟩ } :=
  h.setSlots (fun e mem => by
    obtain ⟨n, inTable, rfl⟩ := List.mem_mapIdx.1 mem
    exact fits n _ (h.sound.slots.entries _ (List.getElem_mem inTable))) (by simp)

theorem State.Live.announce (slots : List Nat) : (s.announce slots).Live := by
  cases claim : s.sched.claim with
  | none => simp only [State.announce, claim]; exact h
  | some c =>
    obtain ⟨kind, phase⟩ := c
    cases phase with
    | unsent =>
      rw [State.announce_eq claim]
      exact h.mapEntries (fun n e fits => by split; exacts [Entry.fits_announced fits, fits]) _
    | announced fresh => simp only [State.announce, claim]; exact h

theorem State.Live.claimAbandoned : s.claimAbandoned.Live := by
  unfold State.claimAbandoned
  split
  · split
    · exact h.endClaim.homePick
    · exact h.endClaim
  · exact h

theorem State.Live.controlClean (f : CtlFrame) : (s.controlClean f).Sound := by
  simp only [State.controlClean]
  split
  · exact (h.dropHead.announce _).sound
  · exact h.dropHead.sound
  · rw [State.moveOffline_eq]
    exact h.dropHead.offLink _

theorem State.Live.controlFailed (f : CtlFrame) : (s.controlFailed f).Sound := by
  cases attempt : s.sender.attempt with
  | none => simp only [State.controlFailed, attempt]; exact h.sound
  | some a =>
    by_cases more : a.attempts < 5
    · rw [State.controlFailed_retries attempt more]
      obtain ⟨room, head, -, -⟩ := h.sound.sender
      obtain ⟨window, positive⟩ := retryWindow_range (a.attempts + 1)
      refine State.Live.sound (h.setSender (sender := ⟨s.sender.queue, some ⟨a.attempts + 1, retryWindow (a.attempts + 1), _⟩,
        s.nextGenerator⟩) ⟨room, ?_, ?_, Nat.mod_lt _ (by omega)⟩)
      · simpa [attempt] using head
      · simp only [Option.mem_def, Option.some.injEq, forall_eq']
        exact ⟨by omega, window, Nat.mod_lt _ positive⟩
    · rw [State.controlFailed_abandons attempt (by omega)]
      have abandoned := (h.setSender (State.withoutHead_inRange h.sound.sender)).post (.controlAbandoned f.kind)
      dsimp only
      split
      · exact abandoned.claimAbandoned.sound
      · exact abandoned.sound
      · exact abandoned.offLink _

theorem State.Live.reportResult (source : FrameSource) (r : Readback) : (s.reportResult source r).Sound := by
  unfold State.reportResult
  split
  · exact h.dataResult _ _
  · exact h.sound
  · exact h.controlClean _
  · exact h.controlFailed _

theorem State.Live.enterFault : s.enterFault.Live := by
  have lined := h.setLine (line := { s.line with faultCount := 8 }) (Nat.le_refl _)
  have freed := lined.mapSlots (f := fun e => if e.isOwn then .free else e)
    (fun e fits => by split; exacts [Entry.fits_free, fits]) none
  have emptied := (freed.setSender (sender := ⟨[], none, s.sender.generator⟩)
    ⟨Nat.zero_le _, by simp, by simp, h.sound.sender.2.2.2⟩).setDelivery
      (delivery := ⟨List.replicate 248 none, []⟩) (Delivery.fits_empty _)
  rw [State.enterFault_eq]
  refine State.Live.postAll ⟨emptied.sound.setStation
    (c := { s.station with life := .fault, listenCount := 0, restartMark := false, leaveCount := 0 })
    emptied.on rfl rfl rfl (Nat.zero_le _) (Nat.zero_le _) (by rintro (no | no) <;> cases no), rfl⟩ _

end

/-- A frame that leaves the line. -/
theorem State.Sound.lineEnds {s : State} (h : s.Sound) : State.Sound { s with line.own := none } :=
  { h with
    reset := fun held => ⟨(h.reset held).1, rfl, (h.reset held).2.2⟩
    clean := fun off => by
      obtain ⟨timer, count, -, rest⟩ := h.clean off
      exact ⟨timer, count, nofun, rest⟩ }

theorem State.Sound.frameEnd {s : State} (h : s.Sound) (differed : Bool) : (s.frameEnd differed).Sound := by
  cases own : s.line.own with
  | none => simp only [State.frameEnd, own]; exact h
  | some f =>
    obtain ⟨source, bytes, readback, discarded⟩ := f
    cases discarded with
    | true =>
      rw [State.frameEnd_discarded own]
      exact h.lineEnds
    | false =>
      have on : s.station.life.onLink = true := by
        by_contra off
        obtain ⟨-, -, silent, -⟩ := h.clean (Bool.eq_false_iff.2 off)
        exact Bool.false_ne_true (silent _ own)
      have ended : State.Live { s with line.own := none } := ⟨h.lineEnds, on⟩
      by_cases failed : differed = true ∨ readback = .failed
      · by_cases below : s.line.faultCount < 7
        · rw [State.frameEnd_failed own failed below]
          exact (ended.setLine (line := { s.line with own := none, faultCount := s.line.faultCount + 1 })
            (by dsimp only; omega)).reportResult _ _
        · have faults : s.frameEnd differed = State.enterFault { s with line.own := none } := by
            simp only [State.frameEnd, own, readback_failed failed, if_neg below]
            rfl
          rw [faults]
          exact ended.enterFault.sound
      · rw [State.frameEnd_clean own failed]
        exact (ended.setLine (line := { s.line with own := none, faultCount := 0 }) (Nat.zero_le _)).reportResult _ _

/-! ### Slot starts -/

theorem Position.rank_of_isEligible {p : Position} (eligible : p.isEligible = true) :
    ∃ start retries deadline, p.phase = .sent start retries deadline true := by
  obtain ⟨payload, seq, phase⟩ := p
  cases phase with
  | sent st r d el => obtain rfl : el = true := eligible; exact ⟨st, r, d, rfl⟩
  | _ => cases eligible

theorem TxLane.Fits.setStream {t : TxLane} {serves : Bool} (h : t.Fits serves) (next : Seq) (armed : Bool) :
    TxLane.Fits serves { t with nextSeq := next, armed := armed } := ⟨h.hold, h.count, h.ordered⟩

/-- A lane that sends stays in order: the position it sends follows none but SENT ones (R112, R121). -/
theorem TxLane.Fits.send {t : TxLane} (h : t.Fits true) (ready : t.ready = true) {c : LaneConfig} (config : t.config = some c)
    {i : Nat} {p : Position} (chooses : t.Chooses i p) (cycle : CycleNum) : (t.send c i p cycle).2.Fits true := by
  obtain ⟨at_i, chosen⟩ := chooses
  obtain ⟨inLane, rfl⟩ := List.getElem?_eq_some_iff.1 at_i
  obtain ⟨-, order, -, held⟩ := h.ordered
  have own := (held c config).1 _ (List.getElem_mem inLane)
  rw [TxLane.send_eq]
  dsimp only
  by_cases broadcast : c.destination = 63
  · simp only [if_pos broadcast]
    exact (h.fewer (List.eraseIdx_sublist _ i) h.count).setStream _ _
  · simp only [if_neg broadcast]
    have before : ∀ j (hj : j < t.positions.length), j < i → t.positions[j].phase.rank ≤ 0 := fun j hj less => by
      obtain ⟨rank, unloaded⟩ := List.pairwise_iff_getElem.1 order j i hj inLane less
      obtain ⟨eligible, -⟩ | ⟨committed, -, first⟩ := chosen
      · obtain ⟨_, _, _, phase⟩ := Position.rank_of_isEligible eligible
        rwa [phase] at rank
      · have other := first t.positions[j] (List.mem_take_iff_getElem.2 ⟨j, by omega, rfl⟩)
        cases phase : t.positions[j].phase with
        | sent => exact Nat.le_refl _
        | committed => exact absurd phase other
        | loading => exact absurd phase unloaded
    refine TxLane.Fits.setStream (h.setPosition i (x := ⟨_, _, .sent _ _ _ _⟩) before (fun _ => Nat.zero_le _) nofun
      fun c' config' => ?_) _ _
    rw [config] at config'
    obtain rfl := Option.some.inj config'
    simp only [Position.fits, Bool.and_eq_true, decide_eq_true_eq] at own ⊢
    refine ⟨own.1, ⟨⟨⟨rfl, by simpa using broadcast⟩, ?_⟩, rfl⟩⟩
    obtain ⟨eligible, -⟩ | ⟨committed, -⟩ := chosen
    · obtain ⟨_, retries, _, phase⟩ := Position.rank_of_isEligible eligible
      simp only [phase, ready, Bool.and_true, Bool.not_true, Bool.false_or, Bool.and_eq_true, decide_eq_true_eq] at own ⊢
      omega
    · simp only [committed]
      omega

section
variable {s : State} (h : s.Live)
include h

theorem State.Live.beginFrame (source : FrameSource) (body : FrameBody) : (s.beginFrame source body).Live :=
  h.setLine h.sound.line

theorem State.Live.sendData (packet : Option Packet) : (s.sendData packet).Live := by
  obtain ⟨length, ⟨eight, pairs⟩, contexts, owed⟩ := h.sound.delivery
  have left : State.Live { s with delivery.owed := s.delivery.owed.drop 3 } :=
    h.setDelivery ⟨length, ⟨Nat.le_trans (List.drop_sublist 3 _).length_le eight, pairs.sublist (List.drop_sublist 3 _)⟩,
      contexts, fun a mem => owed a (List.mem_of_mem_drop mem)⟩
  exact left.beginFrame _ _

theorem State.Live.serveLane (serves : s.serves = true) {l : Nat} (eligible : s.eligible l = true) : (s.serveLane l).Live := by
  obtain ⟨c, i, p, config, unhalted, -, -, chooses⟩ := (s.eligible_iff l).1 eligible
  have fits := h.lane l
  rw [serves] at fits
  rw [State.serveLane_eq config chooses]
  refine State.Live.sendData (h.setLane l ?_) _
  rw [serves]
  exact fits.send ((TxLane.ready_iff _).2 ⟨by rw [config]; exact nofun, unhalted⟩) config chooses _

theorem State.Live.serveShared (serves : s.serves = true) : s.serveShared.Live := by
  unfold State.serveShared
  split
  · rename_i l found
    have four : l < 4 := by
      obtain ⟨k, -, rfl⟩ := List.mem_map.1 (List.mem_of_find?_eq_some found)
      exact Nat.mod_lt _ (by omega)
    have recorded : State.Live { s with tx.lastShared := l } := h.setTx ⟨h.sound.tx.length, h.sound.tx.lanes, four⟩
    refine recorded.serveLane serves ?_
    rw [State.eligible_congr (s := s) (t := { s with tx.lastShared := l }) rfl rfl rfl]
    exact List.find?_some found
  · exact h.sendData none

theorem State.Live.offerData : s.offerData.Live := by
  unfold State.offerData
  split
  · split
    · rename_i serves
      unfold State.serveSlot
      split
      · exact h.sendData none
      · split
        · split
          · exact h.serveLane serves ‹_›
          · exact h.serveShared serves
        · exact h.serveShared serves
    · exact h
  · exact h

theorem State.Live.offerControl : s.offerControl.Live := by
  unfold State.offerControl
  split
  · rename_i f rest a sends queue attempt
    split_ifs
    · exact h
    · exact h.beginFrame _ _
    · obtain ⟨room, head, ranges, generator⟩ := h.sound.sender
      obtain ⟨few, window, below⟩ := ranges a attempt
      refine h.setSender ⟨room, by simpa [attempt] using head, ?_, generator⟩
      simp only [Option.mem_def, Option.some.injEq, forall_eq']
      exact ⟨few, window, by omega⟩
  · exact h

end

theorem State.atSlotStart_onLink {s : State} (starts : s.atSlotStart = true) : s.station.life.onLink = true := by
  unfold State.atSlotStart at starts
  simp only [Bool.and_eq_true] at starts
  exact (s.active_iff.1 starts.1.1).2

theorem State.Sound.scheduledStart {s : State} (h : s.Sound) : s.scheduledStart.Sound := by
  unfold State.scheduledStart
  split
  · rename_i starts
    exact State.Live.startWith ⟨h, State.atSlotStart_onLink (Bool.and_eq_true_iff.1 starts).1⟩ fun t live => live.offerData.sound
  · exact h

theorem State.Sound.openStart {s : State} (h : s.Sound) : s.openStart.Sound := by
  unfold State.openStart
  split
  · rename_i starts
    exact State.Live.startWith ⟨h, State.atSlotStart_onLink (Bool.and_eq_true_iff.1 starts).1⟩ fun t live => live.offerControl.sound
  · exact h

/-! ### Lane commands -/

/-- LOADING is a lane's newest position or none (R112). -/
theorem TxLane.Fits.loadingLast {t : TxLane} {serves : Bool} (h : t.Fits serves) :
    (∀ p ∈ t.positions, p.phase ≠ .loading)
    ∨ ∃ before p, t.positions = before ++ [p] ∧ p.phase = .loading ∧ (∀ q ∈ before, q.phase ≠ .loading) := by
  obtain empty | ⟨before, p, last⟩ := List.eq_nil_or_concat' t.positions
  · exact .inl (by simp [empty])
  · have order := h.ordered.2.1
    rw [last, List.pairwise_append] at order
    have unloaded : ∀ q ∈ before, q.phase ≠ .loading := fun q mem => (order.2.2 q mem p List.mem_cons_self).2
    by_cases loading : p.phase = .loading
    · exact .inr ⟨before, p, last, loading, unloaded⟩
    · refine .inl fun q mem => ?_
      rw [last] at mem
      obtain mem | mem := List.mem_append.1 mem
      · exact unloaded q mem
      · rw [List.mem_singleton.1 mem]; exact loading

/-- A position in newest place, behind positions of the lane that are not LOADING. -/
theorem TxLane.Fits.newest {t : TxLane} {serves : Bool} (h : t.Fits serves) {before : List Position} {x : Position}
    (kept : before.Sublist t.positions) (unloaded : ∀ q ∈ before, q.phase ≠ .loading) (room : before.length < t.depth)
    (rank : 1 ≤ x.phase.rank) (fits : ∀ c ∈ t.config, x.fits c (serves && t.ready) = true) :
    TxLane.Fits serves { t with positions := before ++ [x] } := by
  obtain ⟨hold, count, -, order, disabled, held⟩ := h
  refine ⟨hold, count, by simpa [TxLane.depth] using room, ?_, disabled, fun c config => ⟨fun p mem => ?_, (held c config).2⟩⟩
  · rw [List.pairwise_append]
    refine ⟨order.sublist kept, List.pairwise_singleton _ _, fun q mem x' mem' => ?_⟩
    rw [List.mem_singleton.1 mem']
    have other := unloaded q mem
    refine ⟨?_, other⟩
    cases phase : q.phase with
    | loading => exact absurd phase other
    | sent => exact Nat.zero_le _
    | committed => exact rank
  · obtain mem | mem := List.mem_append.1 mem
    · exact (held c config).1 p (kept.subset mem)
    · rw [List.mem_singleton.1 mem]
      exact fits c config

/-- A payload within the lane's maximum, COMMITTED exactly at it. -/
theorem TxLane.loadedPosition_fits {t : TxLane} {bytes : List Byte} (some : 1 ≤ bytes.length)
    (most : bytes.length ≤ t.maxPayload) (served : Bool) :
    1 ≤ (t.loadedPosition bytes).phase.rank ∧ ∀ c ∈ t.config, (t.loadedPosition bytes).fits c served = true := by
  refine ⟨?_, fun c config => ?_⟩
  · simp only [TxLane.loadedPosition]
    split <;> simp [PosPhase.rank]
  · rw [TxLane.maxPayload_of_config config] at most
    simp only [TxLane.loadedPosition, TxLane.maxPayload_of_config config, Position.fits]
    by_cases full : bytes.length = c.maxPayload
    · simp [full]; omega
    · simp [full]; omega

/-- What a lane command leaves of a lane that keeps to R112. -/
abbrev TxLane.Keeps (serves : Bool) (t : TxLane) (f : TxLane → Option TxLane × Status) : Prop :=
  ∀ u ∈ (f t).1, u.Fits serves

section
variable {t : TxLane} {serves : Bool} (h : t.Fits serves)
include h

theorem TxLane.Fits.appended (count : Byte) (payload : List Byte) : t.Keeps serves (TxLane.appendCounted count payload) := by
  intro u made
  by_cases counted : 1 ≤ count.toNat ∧ count.toNat ≤ 32 ∧ payload.length = count.toNat
  · obtain ⟨one, most, same⟩ := counted
    rw [TxLane.appendCounted_of_counted one most same] at made
    obtain fresh | ⟨before, p, last, loading, unloaded⟩ := h.loadingLast
    · rw [TxLane.append_fresh fresh] at made
      split_ifs at made with room fits
      · obtain rfl := Option.some.inj made
        obtain ⟨rank, held⟩ := TxLane.loadedPosition_fits (by omega) fits (serves && t.ready)
        exact h.newest (List.Sublist.refl _) fresh room rank held
      · cases made
      · cases made
    · rw [TxLane.append_onto last loading] at made
      split_ifs at made with fits
      · obtain rfl := Option.some.inj made
        obtain ⟨rank, held⟩ := TxLane.loadedPosition_fits (t := t) (bytes := p.payload ++ payload)
          (by rw [List.length_append]; omega) (by rw [List.length_append]; exact fits) (serves && t.ready)
        have within := h.ordered.1
        rw [last, List.length_append] at within
        exact h.newest (last ▸ List.sublist_append_left ..) unloaded within rank held
      · cases made
  · have refused : TxLane.appendCounted count payload t = (none, .arg) := if_neg (by simpa [and_assoc] using counted)
    rw [refused] at made
    cases made

theorem TxLane.Fits.committed : t.Keeps serves TxLane.commit := by
  intro u made
  obtain fresh | ⟨before, p, last, loading, unloaded⟩ := h.loadingLast
  · rw [TxLane.commit_nothing fresh] at made
    cases made
  · rw [TxLane.commit_newest last loading] at made
    obtain rfl := Option.some.inj made
    have within := h.ordered.1
    rw [last, List.length_append] at within
    refine h.newest (last ▸ List.sublist_append_left ..) unloaded within (Nat.le_refl 1) fun c config => ?_
    have held := (h.ordered.2.2.2 c config).1 p (by simp [last])
    simp only [Position.fits, Bool.and_eq_true] at held ⊢
    exact ⟨held.1, trivial⟩

omit h in
theorem TxLane.Fits.flushed : t.Keeps serves fun t => (some t.flush, .ok) := by
  intro u made
  obtain rfl := Option.some.inj made
  exact ⟨Nat.zero_le _, Nat.zero_le _, Nat.zero_le _, List.Pairwise.nil, fun _ => rfl, fun c config => ⟨nofun, fun no => absurd rfl no⟩⟩

theorem TxLane.Fits.resumed : t.Keeps serves TxLane.resume := by
  intro u made
  unfold TxLane.resume at made
  split at made
  · obtain rfl := Option.some.inj made
    exact h.unsent serves (.inl rfl) (Nat.zero_le _) (Nat.zero_le _)
  · cases made

end

/-- A lane command on the link keeps the blocks in order. -/
theorem State.Sound.onLane {s : State} (h : s.Sound) {taken : Bool} (linked : taken = true → s.station.life.onLink = true)
    (lane : Byte) {f : TxLane → Option TxLane × Status} (keeps : ∀ t : TxLane, t.Fits s.serves → t.Keeps s.serves f) :
    (s.onLane taken lane f).1.Sound := by
  unfold State.onLane
  split_ifs with untaken number enabled
  · exact h
  · exact h
  · exact h
  · have live : s.Live := ⟨h, linked (by simpa using untaken)⟩
    split
    · rename_i t st acted
      exact (live.setLane _ (keeps _ (live.lane _) t (by rw [acted]; rfl))).sound
    · exact h

end Sys2Proof.Machine

/-!
PROOFS. The invariants of the blocks taken one by one, over every command: the host port and the reset rows, and the
statements themselves.
-/

namespace Sys2Proof.Machine

/-! ### The host commands -/

/-- A CONFIGURE that passed its checks names a peer address and a cycle code (R159). -/
theorem ConfigureArgs.installed {a : ConfigureArgs} (accepted : a.consistent = true) :
    a.address.toNat ≤ 62 ∧ ∃ code, CycleCode.ofNat? a.code.toNat = some code := by
  simp only [ConfigureArgs.consistent, Bool.and_eq_true, decide_eq_true_eq, Option.isSome_iff_exists] at accepted
  obtain ⟨⟨⟨⟨⟨⟨-, most⟩, code⟩, -⟩, -⟩, -⟩, -⟩ := accepted
  exact ⟨most, code⟩

theorem State.Live.beginLeaving {s : State} (h : s.Live) (joined : s.station.life = .joined) : s.beginLeaving.Live := by
  have lined := h.setLine (line := { s.line with own := s.line.own.map fun (f : OwnFrame) => match f.source with
    | .control c _ => { f with source := .control c true }
    | .data _ => f }) h.sound.line
  have queued := lined.setSender (sender := ⟨[⟨.leave, []⟩], some ⟨0, 2, s.sender.generator % 2⟩, s.nextGenerator⟩)
    ⟨by simp, by simp, by
      simp only [Option.mem_def, Option.some.injEq, forall_eq']
      exact ⟨by omega, by simp, Nat.mod_lt _ (by omega)⟩, Nat.mod_lt _ (by omega)⟩
  have moved := queued.sound.setStation (c := { s.station with life := .leaving, leaveCount := 8 }) queued.on rfl rfl rfl
    h.sound.station.listen (Nat.le_refl _) fun _ => (s.serves_iff).2 (by simp [joined])
  rw [State.beginLeaving_eq]
  exact State.Live.endClaim ⟨moved, rfl⟩

theorem Entry.fits_share {own : Nat} {present : Nat → Bool} {e : Entry} (lane : Nat) (fits : e.Fits own present) :
    (e.share lane).Fits own present := by
  unfold Entry.share
  split
  · split
    · have range := fits.1
      simp only [Entry.inRange, Bool.and_eq_true] at range
      exact Entry.fits_own rfl (by simp [Entry.inRange, Binding.inRange, range])
    · exact fits
  · split
    · have range := fits.1
      simp only [Entry.inRange, Bool.and_eq_true] at range
      exact Entry.fits_own rfl (by simp [Entry.inRange, Binding.inRange, range])
    · exact fits
  · exact fits

theorem State.loads_onLink {s : State} (taken : s.station.life.loads = true) : s.station.life.onLink = true := by
  cases life : s.station.life <;> simp_all [StationState.loads, StationState.onLink]

theorem State.endTransaction_held (s : State) : s.endTransaction.held = s.held := by
  unfold State.endTransaction
  split <;> rfl

section
variable {s : State} (h : s.Sound) (free : s.held = false)
include h free

theorem State.Sound.install {a : ConfigureArgs} (off : s.station.life.onLink = false) (accepted : a.consistent = true) :
    (s.install a).Sound := by
  obtain ⟨most, code, named⟩ := ConfigureArgs.installed accepted
  obtain ⟨timer, count, silent, unmarked, listen, restart, leave, -, -, sender, peers, -, -, contexts, owed, rx⟩ := h.clean off
  have lanes : ∀ t ∈ List.zipWith TxLane.configured s.tx.lanes a.lanes, t = t.offline := fun t mem => by
    obtain ⟨i, inTable, rfl⟩ := List.mem_iff_getElem.1 mem
    rw [List.getElem_zipWith]
    rfl
  have length : (List.zipWith TxLane.configured s.tx.lanes a.lanes).length = 4 := by
    rw [List.length_zipWith, h.tx.length]; rfl
  have stopped : ({ s.timer with position := 0, cycle := 0, reference := a.address.toNat } : CycleTimer)
      = stoppedTimer a.address.toNat := by rw [timer]; rfl
  have configured : State.scheduled (s.install a) = code.scheduled := by simp only [State.scheduled, State.install, named]
  exact {
    line := h.line
    timer := by
      change CycleTimer.Fits a.address.toNat _ false { s.timer with position := 0, cycle := 0, reference := a.address.toNat }
      rw [stopped]
      exact stoppedTimer_fits _ _
    station := ⟨most, h.station.listen, h.station.leave, by simp [State.install, named]⟩
    slots := by
      rw [configured]
      simp only [State.install, named]
      exact SlotsFit.replicate _ _ _
    sender := h.sender
    peers := h.peers
    tx := ⟨length, fun t mem => by rw [lanes t mem]; exact TxLane.ordered_offline _ _, Nat.lt_succ_self _⟩
    delivery := by
      obtain ⟨held, range, -, -⟩ := h.delivery
      refine ⟨held, range, fun i used valid => ?_, fun a mem => ?_⟩
      · have inTable : i < s.delivery.contexts.length := by rw [held]; exact used
        have none := contexts _ (List.getElem_mem inTable)
        change ((s.delivery.contexts.getD i Option.none).isSome = true) at valid
        simp [inTable, none] at valid
      · change a ∈ s.delivery.owed at mem
        rw [owed] at mem
        cases mem
    rx := ⟨h.rx.lanes, rfl, h.rx.room⟩
    port := h.port
    reset := fun held => absurd (show s.held = true from held) (Bool.eq_false_iff.1 free)
    clean := fun _ => ⟨stopped, count, silent, unmarked, listen, restart, leave,
      fun e mem => List.eq_of_mem_replicate mem, rfl, sender, peers, lanes, rfl, contexts, owed, rx⟩ }

theorem State.Sound.configure (a : ConfigureArgs) : (s.configure a).1.Sound := by
  unfold State.configure
  split_ifs with off accepted
  · refine h.install free ?_ accepted
    obtain life | life := Bool.or_eq_true_iff.1 off <;> rw [beq_iff_eq.1 life] <;> rfl
  · exact h
  · exact h

theorem State.Sound.join : s.join.1.Sound := by
  unfold State.join
  split
  · rename_i offline
    have life : s.station.life = .offline := beq_iff_eq.1 offline
    have off : s.station.life.onLink = false := by rw [life]; rfl
    obtain ⟨code, configured⟩ := Option.isSome_iff_exists.1 (h.station.code.2 (by rw [life]; exact nofun))
    obtain ⟨-, -, -, -, -, -, -, -, -, sender, -⟩ := h.clean off
    exact { h with
      line := Nat.zero_le _
      timer := by
        change CycleTimer.Fits s.station.address s.slotCount true (stoppedTimer s.station.address)
        refine ⟨Nat.zero_le _, Nat.le_refl _, fun _ => ?_, nofun, List.Pairwise.nil⟩
        simp only [State.slotCount, configured]
        cases code <;> exact Nat.zero_lt_succ _
      station := ⟨h.station.address, Nat.le_refl 2, Nat.zero_le _, by simp [configured]⟩
      sender := by
        have address := h.station.address
        rw [sender]
        exact ⟨Nat.zero_le _, by simp, by simp, by dsimp only; omega⟩
      tx := ⟨h.tx.length, fun t mem => (h.tx.lanes t mem).weaken nofun, h.tx.shared⟩
      reset := fun held => absurd (show s.held = true from held) (Bool.eq_false_iff.1 free)
      clean := State.free_clean rfl }
  · exact h

omit free in
theorem State.Sound.leave : s.leave.1.Sound := by
  unfold State.leave
  split
  · rename_i life
    rw [State.moveOffline_eq]
    exact State.Live.offLink ⟨h, by rw [life]; rfl⟩ _
  · rename_i life
    rw [State.moveOffline_eq]
    exact State.Live.offLink ⟨h, by rw [life]; rfl⟩ _
  · rename_i life
    rw [State.moveOffline_eq]
    exact State.Live.offLink ⟨h, by rw [life]; rfl⟩ _
  · rename_i joined
    have live : s.Live := ⟨h, by rw [joined]; rfl⟩
    exact (live.beginLeaving joined).sound
  all_goals exact h

omit free in
theorem State.Sound.reserve (lane n : Byte) : (s.reserve lane n).1.Sound := by
  unfold State.reserve
  split_ifs with life number count busy limit slots
  any_goals exact h
  have joined : s.station.life = .joined := by simpa using life
  have live : s.Live := ⟨h, by rw [joined]; rfl⟩
  have lane3 : lane.toNat ≤ 3 := by
    by_contra above
    simp [above] at number
  have room : s.sender.queue.length < 4 := by
    by_contra full
    simp [full] at busy
  rw [State.claimSlots_eq]
  have claimed := live.mapEntries (f := fun k e =>
      if k ∈ (s.slotsWhere (· == .free)).take n.toNat then .ownClaiming (.lane lane.toNat) false none else e)
    (fun k e fits => by
      split
      · exact Entry.fits_own rfl (by simp [Entry.inRange, Binding.inRange, lane3])
      · exact fits) (some ⟨.reservation lane.toNat, .unsent⟩)
  exact (claimed.setSender (State.withFrame_inRange h.sender room _)).sound

omit free in
theorem State.Sound.release (lane : Byte) : (s.release lane).1.Sound := by
  unfold State.release
  split_ifs with life number claiming
  any_goals exact h
  have joined : s.station.life = .joined := by simpa using life
  have live : s.Live := ⟨h, by rw [joined]; rfl⟩
  have released : (s.released lane.toNat).Live :=
    live.mapSlots (fun e fits => Entry.fits_share _ (Entry.fits_freeIf _ fits)) s.sched.claim
  rw [State.releaseLane_eq]
  split
  · exact released.sound
  · exact (released.placeRelease _).sound

/-- What a host command does keeps the blocks in order. -/
theorem State.Sound.reply (c : Instr) : (s.reply c).1.Sound := by
  cases c with
  | configure a => exact h.configure free a
  | join => exact h.join free
  | leave => exact h.leave
  | reserve lane n => exact h.reserve lane n
  | release lane => exact h.release lane
  | append lane count payload => exact h.onLane State.loads_onLink lane fun t fits => fits.appended count payload
  | commit lane => exact h.onLane State.loads_onLink lane fun t fits => fits.committed
  | flush lane => exact h.onLane id lane fun _ _ => TxLane.Fits.flushed
  | resume lane => exact h.onLane id lane fun t fits => fits.resumed
  | fetch lane => change (s.fetch lane).1.Sound; unfold State.fetch; split_ifs <;> (try split) <;> exact h
  | readEvent => change s.readEvent.1.Sound; unfold State.readEvent; split <;> exact h
  | readSlot slot => change (s.readSlot slot).1.Sound; unfold State.readSlot; split_ifs <;> exact h
  | readPeer address => change (s.readPeer address).1.Sound; unfold State.readPeer; split_ifs <;> exact h
  | _ => exact h

theorem State.Sound.endTransaction' : s.endTransaction.Sound := by
  unfold State.endTransaction
  split
  · have code : s.station.code.isSome = true ↔ (if s.station.code.isSome = true then StationState.offline else .unconfigured)
        ≠ .unconfigured := by split <;> simp_all
    have off : (if s.station.code.isSome = true then StationState.offline else .unconfigured).onLink = false := by
      split <;> rfl
    exact h.emptied free (own := none) nofun off code (f := TxLane.resetLane) (fun t => rfl)
      (port := ⟨[], 0, none⟩) ⟨Nat.zero_le _, Nat.zero_le _, fun no => absurd rfl no⟩
  · exact h.endTransaction

end

/-! ### The port and the reset rows -/

theorem State.Sound.take {s : State} (h : s.Sound) (c : Instr) : (s.take c (State.reply c)).Sound := by
  unfold State.take
  split
  · exact h
  · rename_i notHeld
    have free : s.held = false := by simpa using notHeld
    have ready : s.endTransaction.held = false := s.endTransaction_held.trans free
    have replied := (h.endTransaction' free).reply ready c
    refine replied.setTransaction ?_ _
    have power := (State.ambient_eq (State.reply_ambient c s.endTransaction)).1
    rw [← ready]
    simp only [State.held, power]

theorem State.Sound.fetchRemoval {s : State} (h : s.Sound) (free : s.held = false) : s.fetchRemoval.Sound := by
  unfold State.fetchRemoval
  split
  · rename_i l _
    have shorter : ∀ r ∈ s.rx.lanes.modify l List.tail, ∃ r' ∈ s.rx.lanes, r = r' ∨ r = r'.tail := fun r mem => by
      obtain ⟨i, inTable, rfl⟩ := List.mem_iff_getElem.1 mem
      have inTable' : i < s.rx.lanes.length := by simpa using inTable
      refine ⟨_, List.getElem_mem inTable', ?_⟩
      rw [List.getElem_modify]
      split
      · exact .inr rfl
      · exact .inl rfl
    have taken : State.Sound { s with rx.lanes := s.rx.lanes.modify l List.tail } := { h with
      rx := ⟨(List.length_modify ..).trans h.rx.lanes, h.rx.notify, fun r mem => by
        obtain ⟨r', mem', rfl | rfl⟩ := shorter r mem
        · exact h.rx.room _ mem'
        · exact Nat.le_trans (by simp) (h.rx.room _ mem')⟩
      clean := fun off => by
        obtain ⟨timer, count, silent, unmarked, listen, restart, leave, slots, claim, sender, peers, lanes, shared, contexts,
          owed, rx⟩ := h.clean off
        refine ⟨timer, count, silent, unmarked, listen, restart, leave, slots, claim, sender, peers, lanes, shared, contexts,
          owed, fun r mem => ?_⟩
        obtain ⟨r', mem', rfl | rfl⟩ := shorter r mem
        · exact rx _ mem'
        · rw [rx _ mem']; rfl }
    exact taken.setTransaction free _
  · exact h

theorem State.Sound.eventRemoval {s : State} (h : s.Sound) (free : s.held = false) : s.eventRemoval.Sound := by
  unfold State.eventRemoval
  split
  · refine State.Sound.setTransaction (s := s.removeEvent) ?_ ?_ _
    · obtain ⟨room, few, full⟩ := h.port
      simp only [State.removeEvent]
      split
      · refine h.setPort ⟨?_, Nat.zero_le _, fun no => absurd rfl no⟩ rfl
        simp only [List.length_append, List.length_tail, List.length_singleton]
        omega
      · rename_i other
        refine h.setPort ⟨Nat.le_trans (by simp) room, few, fun lost => absurd ?_ other⟩ rfl
        simp [full lost, lost]
    · simp only [State.removeEvent]
      split <;> exact free
  · exact h

/-- The values after power-on and reset are in order, whatever holds the station in reset. -/
theorem State.Sound.powerOnValues (s : State) (power : Power) : (s.powerOnValues power).Sound := by
  obtain ⟨counts, sized, table, -, -, clean, presence, lanes⟩ := Proofs.resetMeetsInvariants
  have reset := State.reset.sound_iff.2 ⟨counts, sized, table, clean, presence, lanes⟩
  exact { reset with
    reset := fun _ => ⟨rfl, rfl, rfl⟩
    clean := reset.clean }

/-- A station in reset no longer, or still. -/
theorem State.Sound.setPower {s : State} (h : s.Sound) {power : Power}
    (released : State.held { s with power := power } = true → s.held = true) : State.Sound { s with power := power } :=
  { h with reset := fun held => h.reset (released held), clean := h.clean }

/-- Every command of the table keeps the blocks in order. -/
theorem State.Sound.after {s : State} (h : s.Sound) (c : Instr) : (s.after c).Sound := by
  have unlessHeld : ∀ {f : State → State}, (s.held = false → (f s).Sound) → (if s.held then s else f s).Sound :=
    fun kept => by
      split
      · exact h
      · exact kept (by simp_all)
  have ifDue : ∀ d, (s.ifActive (·.takeDue d)).Sound := fun d => h.ifActive fun live => live.sound.takeDue d
  cases c with
  | commandDiscard | resetAct => exact unlessHeld fun free => h.endTransaction' free
  | fetchRemoval => exact unlessHeld fun free => h.fetchRemoval free
  | eventRemoval => exact unlessHeld fun free => h.eventRemoval free
  | powerOn | rstnFall => exact State.Sound.powerOnValues _ _
  | rstnRise => exact h.setPower fun held => by simp only [State.held, Bool.or_eq_true] at held ⊢; exact .inr (by simpa using held)
  | supplySettled => exact h.setPower fun held => by simp only [State.held, Bool.or_eq_true] at held ⊢; exact .inl (by simpa using held)
  | receiveFrame bytes ragged span => exact h.receive bytes ragged span
  | scheduledSlotStart => exact h.scheduledStart
  | openSlotStart => exact h.openStart
  | ownFrameEnd differed => exact h.frameEnd differed
  | cycleStart => exact h.cycleStart
  | slotEnd => exact h.slotEnd
  | peerAbsence => exact h.ifActive fun live => live.sound.absenceNext
  | deadlineReached l => exact h.ifActive (f := (·.deadlineNext l)) fun live => live.sound.deadlineNext l
  | lapse | yieldWindowExpire | pendingExpiry | barExpire | settleExpire | listenEnd | waitingHomePick | leaveTimeout
  | relearnHoldExpire | busyHoldExpire => exact ifDue _
  | _ => exact h.take _

/-- A step leaves the state as it is or runs the front command. -/
theorem step_next {s t : State} (taken : step s = .next t) :
    t = s ∨ ∃ c rest, s.pending = c :: rest ∧ t = State.after c { s with pending := rest } := by
  unfold step at taken
  split at taken
  · exact .inl (Host.Outcome.next.inj taken).symm
  · rename_i c rest pending
    rw [exec_eq] at taken
    exact .inr ⟨c, rest, pending, (Host.Outcome.next.inj taken).symm⟩

theorem State.Coherent.sound {s : State} (h : s.Coherent) : s.Sound := by
  obtain ⟨counts, sized, table, -, -, clean, presence, lanes⟩ := h
  exact s.sound_iff.2 ⟨counts, sized, table, clean, presence, lanes⟩

/-- Every step keeps the invariants of the blocks taken one by one. -/
theorem step_sound {s t : State} (h : s.Coherent) (taken : step s = .next t) :
    t.CountsBounded ∧ t.Sized ∧ t.TableInRange ∧ t.CleanOffLink ∧ t.ConcernsPresent ∧ t.LanesOrdered := by
  refine t.sound_iff.1 ?_
  obtain rfl | ⟨c, rest, -, rfl⟩ := step_next taken
  · exact h.sound
  · exact (h.sound.setPending rest).after c

end Sys2Proof.Machine

namespace Sys2Proof.Proofs

open Sys2Proof.Machine

/-- Settles O4. -/
theorem countsStayBounded : Obligations.CountsStayBounded := fun _ _ h taken => (step_sound h taken).1

/-- Settles O5. -/
theorem tableStaysInRange : Obligations.TableStaysInRange := fun _ _ h taken => (step_sound h taken).2.2.1

/-- Settles O6. -/
theorem tablesStaySized : Obligations.TablesStaySized := fun _ _ h taken => (step_sound h taken).2.1

/-- Settles O9. -/
theorem offLinkStaysClean : Obligations.OffLinkStaysClean := fun _ _ h taken => (step_sound h taken).2.2.2.1

/-- Settles O10. -/
theorem onlyPresentPeersConcerned : Obligations.OnlyPresentPeersConcerned := fun _ _ h taken =>
  (step_sound h taken).2.2.2.2.1

/-- Settles O11. -/
theorem lanesStayOrdered : Obligations.LanesStayOrdered := fun _ _ h taken => (step_sound h taken).2.2.2.2.2

end Sys2Proof.Proofs

/-!
PROOFS. Own entries, claim in flight and control queue in step with the station state: the invariant station state by
station state, and what of the state it reads.
-/

namespace Sys2Proof.Machine

/-! ### Entries counted -/

/-- A home entry that is claimed and not yet held. -/
def Entry.isHomeClaim (e : Entry) : Bool := e.isHome && e.isClaiming

/-- What the claim engine reads of an entry (R57 to R60). -/
def Entry.role (e : Entry) : Bool × Bool × Bool := (e.isOwn, e.isClaiming, e.isHome)

theorem Entry.own_of_claiming {e : Entry} (h : e.isClaiming = true) : e.isOwn = true := by
  cases e <;> simp_all [Entry.isOwn, Entry.isClaiming]

theorem Entry.own_of_home {e : Entry} (h : e.isHome = true) : e.isOwn = true := by
  cases e <;> simp_all [Entry.isOwn, Entry.isHome]

section
variable {s t : State} {p : Entry → Bool}

theorem State.slotsWhere_congr (length : t.sched.slots.length = s.sched.slots.length)
    (same : ∀ n, p (t.entry n) = p (s.entry n)) : t.slotsWhere p = s.slotsWhere p := by
  simp only [State.slotsWhere, length, same]

theorem State.countP_congr (length : t.sched.slots.length = s.sched.slots.length)
    (same : ∀ n, p (t.entry n) = p (s.entry n)) : t.sched.slots.countP p = s.sched.slots.countP p := by
  rw [← State.slotsWhere_length, ← State.slotsWhere_length, State.slotsWhere_congr length same]

/-- An ascending list of the slots for which the test holds is the list of them. -/
theorem State.slotsWhere_eq {l : List Nat} (ascending : l.Pairwise (· < ·))
    (mem : ∀ n, n ∈ l ↔ n < s.sched.slots.length ∧ p (s.entry n) = true) : s.slotsWhere p = l :=
  (s.slotsWhere_sorted p).eq_of_mem_iff ascending fun n => (s.mem_slotsWhere p n).trans (mem n).symm

theorem State.countP_setEntry {n : Nat} (used : n < s.sched.slots.length) (e : Entry) :
    (s.setEntry n e).sched.slots.countP p + (if p (s.entry n) = true then 1 else 0)
      = s.sched.slots.countP p + (if p e = true then 1 else 0) := by
  have here : s.entry n = s.sched.slots[n] := by simp [State.entry, used]
  have set := List.countP_set (p := p) (a := e) used
  have counted : (if p s.sched.slots[n] = true then 1 else 0) ≤ s.sched.slots.countP p := by
    split
    · exact List.countP_pos_iff.2 ⟨_, List.getElem_mem used, ‹_›⟩
    · exact Nat.zero_le _
  simp only [State.setEntry]
  rw [set, here]
  omega

theorem State.countP_entry (holds : p (s.entry n) = true) (free : p .free = false) : 0 < s.sched.slots.countP p := by
  obtain mem | none := s.entry_mem n
  · exact List.countP_pos_iff.2 ⟨_, mem, holds⟩
  · rw [none, free] at holds
    cases holds

theorem State.entry_of_countP (none : s.sched.slots.countP p = 0) (free : p .free = false) (n : Nat) :
    p (s.entry n) = false := by
  by_contra holds
  have := State.countP_entry (Bool.not_eq_false _ ▸ holds) free
  omega

/-- Fewer entries pass a narrower test. -/
theorem countP_narrow {q : Entry → Bool} (l : List Entry) (narrow : ∀ e, p e = true → q e = true) : l.countP p ≤ l.countP q :=
  List.countP_mono_left fun e _ => narrow e

end

/-! ### The control queue -/

/-- Every frame of the queue may go out, these are its CLAIM frames, and it holds no LEAVE. -/
structure QueueFits (scheduled : Nat) (claims queue : List CtlFrame) : Prop where
  formed : ∀ f ∈ queue, f.WellFormed scheduled
  claims : queue.filter (·.kind == .claim) = claims
  staying : ∀ f ∈ queue, f.kind ≠ .leave

section
variable {D : Nat} {claims queue : List CtlFrame}

theorem QueueFits.nil : QueueFits D [] [] := ⟨nofun, rfl, nofun⟩

theorem QueueFits.append (h : QueueFits D claims queue) {f : CtlFrame} (formed : f.WellFormed D) (stays : f.kind ≠ .leave) :
    QueueFits D (claims ++ [f].filter (·.kind == .claim)) (queue ++ [f]) where
  formed g mem := (List.mem_append.1 mem).elim (h.formed g) fun last => List.mem_singleton.1 last ▸ formed
  claims := by rw [List.filter_append, h.claims]
  staying g mem := (List.mem_append.1 mem).elim (h.staying g) fun last => List.mem_singleton.1 last ▸ stays

/-- The head leaves a queue. -/
theorem QueueFits.tail {f : CtlFrame} (h : QueueFits D claims (f :: queue)) :
    QueueFits D (if f.kind = .claim then claims.tail else claims) queue where
  formed g mem := h.formed g (List.mem_cons_of_mem _ mem)
  claims := by
    rw [← h.claims, List.filter_cons]
    by_cases claim : f.kind = .claim <;> simp [claim]
  staying g mem := h.staying g (List.mem_cons_of_mem _ mem)

/-- The one CLAIM frame of a queue stands between others. -/
theorem QueueFits.split {c : CtlFrame} (h : QueueFits D [c] queue) :
    ∃ before after, queue = before ++ c :: after ∧ (∀ f ∈ before ++ after, f.kind ≠ .claim)
      ∧ QueueFits D [] (before ++ after) := by
  obtain ⟨before, after, rfl, none, -, rest⟩ := List.filter_eq_cons_iff.1 h.claims
  have others : ∀ f ∈ before ++ after, f.kind ≠ .claim := fun f mem => by
    obtain mem | mem := List.mem_append.1 mem
    · simpa using none f mem
    · simpa using List.filter_eq_nil_iff.1 rest f mem
  have stands : ∀ f ∈ before ++ after, f ∈ before ++ c :: after := fun f mem => by
    obtain mem | mem := List.mem_append.1 mem
    · exact List.mem_append_left _ mem
    · exact List.mem_append_right _ (List.mem_cons_of_mem _ mem)
  exact ⟨before, after, rfl, others, fun f mem => h.formed f (stands f mem),
    List.filter_eq_nil_iff.2 fun f mem => by simpa using others f mem, fun f mem => h.staying f (stands f mem)⟩

/-- A CLAIM frame back between the others. -/
theorem QueueFits.insert {before after : List CtlFrame} {slots : List Nat} (h : QueueFits D [] (before ++ after))
    (formed : CtlFrame.WellFormed D ⟨.claim, slots⟩) :
    QueueFits D [⟨.claim, slots⟩] (before ++ ⟨.claim, slots⟩ :: after) := by
  have none := List.filter_eq_nil_iff.1 h.claims
  have split : ∀ {P : CtlFrame → Prop}, P ⟨.claim, slots⟩ → (∀ f ∈ before ++ after, P f) →
      ∀ f ∈ before ++ ⟨.claim, slots⟩ :: after, P f := fun here others f mem => by
    obtain mem | mem := List.mem_append.1 mem
    · exact others f (List.mem_append_left _ mem)
    · obtain rfl | mem := List.mem_cons.1 mem
      · exact here
      · exact others f (List.mem_append_right _ mem)
  refine ⟨split formed h.formed, ?_, split nofun h.staying⟩
  rw [List.filter_append, List.filter_cons_of_pos rfl,
    List.filter_eq_nil_iff.2 fun f mem => none f (List.mem_append_left _ mem),
    List.filter_eq_nil_iff.2 fun f mem => none f (List.mem_append_right _ mem)]
  rfl

end

/-! ### The invariant -/

/-- Own entries, claim in flight and control queue fit the station state. -/
structure State.Fitting (s : State) : Prop where
  sized : s.sched.slots.length = s.scheduled
  home : s.HomeCoherent
  queue : s.QueueCoherent

/-- No result of a control frame will be reported. -/
def State.LineFree (s : State) : Prop := ∀ f ∈ s.line.own, f.discarded = true ∨ ∃ n, f.source = .data n

theorem State.LineFree.matches {s : State} (free : s.LineFree) : s.lineMatchesQueue = true := by
  unfold State.lineMatchesQueue
  split
  · rename_i own
    obtain discarded | ⟨n, data⟩ := free _ own
    · cases discarded
    · cases data
  · rename_i own
    obtain discarded | ⟨n, data⟩ := free _ own
    · cases discarded
    · cases data
  · rfl

theorem State.LineFree.of_none {s : State} (silent : s.line.own = none) : s.LineFree := fun f mem => by
  rw [silent] at mem
  cases mem

theorem State.lineFree_of_empty {s : State} (fits : s.lineMatchesQueue = true) (queue : s.sender.queue = [])
    (stays : s.station.life ≠ .leaving) : s.LineFree := by
  rintro ⟨source, bytes, readback, discarded⟩ own
  cases discarded with
  | true => exact .inl rfl
  | false =>
    cases source with
    | data n => exact .inr ⟨n, rfl⟩
    | control f replaced =>
      have own : s.line.own = some ⟨.control f replaced, bytes, readback, false⟩ := own
      cases replaced <;> simp [State.lineMatchesQueue, own, queue, stays] at fits

/-- Own entries of a station that holds a home slot (R59, R60). -/
structure State.Anchored (s : State) : Prop where
  few : s.sched.slots.countP Entry.isOwn ≤ 8
  home : s.sched.slots.countP Entry.isHome = 1
  held : s.sched.slots.countP Entry.isHomeClaim = 0

/-- A reservation is in flight exactly while entries are claimed (R62). -/
def State.Reserving (s : State) : Prop :=
  s.sched.claim = none ∧ s.sched.slots.countP Entry.isClaiming = 0
  ∨ ∃ lane phase, s.sched.claim = some ⟨.reservation lane, phase⟩ ∧ 0 < s.sched.slots.countP Entry.isClaiming

section
variable {s : State}

theorem State.anchored_iff : s.Anchored ↔ s.ownSlots ≤ 8 ∧ s.sched.slots.countP Entry.isHome = 1
    ∧ ∀ e ∈ s.sched.slots, e.isHome = true → e.isClaiming = false := by
  have held : s.sched.slots.countP Entry.isHomeClaim = 0 ↔ ∀ e ∈ s.sched.slots, e.isHome = true → e.isClaiming = false := by
    simp [List.countP_eq_zero, Entry.isHomeClaim]
  exact ⟨fun h => ⟨h.few, h.home, held.1 h.held⟩, fun h => ⟨h.1, h.2.1, held.2 h.2.2⟩⟩

theorem State.reserving_iff : s.Reserving ↔ s.sched.claimsHome = false
    ∧ (s.sched.claim.isSome = true ↔ ∃ e ∈ s.sched.slots, e.isClaiming = true) := by
  unfold State.Reserving Schedule.claimsHome
  rw [← List.countP_pos_iff]
  cases claim : s.sched.claim with
  | none => simp
  | some c =>
    obtain ⟨kind, phase⟩ := c
    cases kind <;> simp

/-- A station that has no slot and picks none (R59). -/
theorem State.fitting_idle (idle : s.sendsControl = false) : s.Fitting ↔ s.sched.slots.length = s.scheduled
    ∧ s.sched.slots.countP Entry.isOwn = 0 ∧ s.sched.claim = none ∧ s.sender.queue = [] ∧ s.LineFree := by
  have unserved : s.serves = false := by unfold State.sendsControl at idle; exact (Bool.or_eq_false_iff.1 idle).1
  have other : s.station.life ≠ .joining ∧ s.station.life ≠ .leaving := by
    constructor <;> intro life <;> simp [State.sendsControl, State.serves, life] at idle
  constructor
  · rintro ⟨sized, ⟨-, -, -, none⟩, -, -, -, empty, line⟩
    exact ⟨sized, (none idle).1, (none idle).2, empty idle, State.lineFree_of_empty line (empty idle) other.2⟩
  · rintro ⟨sized, none, claim, empty, line⟩
    refine ⟨sized, ⟨by rw [State.ownSlots, none]; omega, fun served => ?_, fun joining => absurd joining other.1,
      fun _ => ⟨none, claim⟩⟩, ?_, ?_, ?_, fun _ => empty, line.matches⟩
    · rw [unserved] at served; cases served
    · simp [empty]
    · simp [empty, State.dueClaims, claim]
    · rw [if_neg other.2]
      simp [empty]

theorem State.queueCoherent_iff (stays : s.station.life ≠ .leaving) (sends : s.sendsControl = true) :
    s.QueueCoherent ↔ QueueFits s.scheduled s.dueClaims s.sender.queue ∧ s.lineMatchesQueue = true := by
  unfold State.QueueCoherent
  rw [if_neg stays, sends]
  exact ⟨fun ⟨formed, claims, staying, _, line⟩ => ⟨⟨formed, claims, staying⟩, line⟩,
    fun ⟨⟨formed, claims, staying⟩, line⟩ => ⟨formed, claims, staying, nofun, line⟩⟩

theorem State.fitting_joined (joined : s.station.life = .joined) : s.Fitting ↔ s.sched.slots.length = s.scheduled
    ∧ s.Anchored ∧ s.Reserving ∧ QueueFits s.scheduled s.dueClaims s.sender.queue ∧ s.lineMatchesQueue = true := by
  have served : s.serves = true := by simp [State.serves, joined]
  have sends : s.sendsControl = true := by simp [State.sendsControl, served]
  rw [← State.queueCoherent_iff (by rw [joined]; exact nofun) sends, State.anchored_iff, State.reserving_iff]
  constructor
  · rintro ⟨sized, ⟨few, held, -, -⟩, queue⟩
    obtain ⟨home, settled, kind, claims, -⟩ := held served
    exact ⟨sized, ⟨few, home, settled⟩, ⟨kind, claims⟩, queue⟩
  · rintro ⟨sized, ⟨few, home, settled⟩, ⟨kind, claims⟩, queue⟩
    refine ⟨sized, ⟨few, fun _ => ⟨home, settled, kind, claims, fun leaving => ?_⟩, fun joining => ?_, fun idle => ?_⟩, queue⟩
    · rw [joined] at leaving; cases leaving
    · rw [joined] at joining; cases joining
    · rw [sends] at idle; cases idle

theorem State.fitting_leaving (leaving : s.station.life = .leaving) : s.Fitting ↔ s.sched.slots.length = s.scheduled
    ∧ s.Anchored ∧ s.sched.claim = none ∧ s.sched.slots.countP Entry.isClaiming = 0
    ∧ s.sender.queue = [⟨.leave, []⟩] ∧ s.lineMatchesQueue = true := by
  have served : s.serves = true := by simp [State.serves, leaving]
  have sends : s.sendsControl = true := by simp [State.sendsControl, served]
  rw [State.anchored_iff]
  constructor
  · rintro ⟨sized, ⟨few, held, -, -⟩, -, -, queue, -, line⟩
    obtain ⟨home, settled, -, claims, none⟩ := held served
    rw [if_pos leaving] at queue
    refine ⟨sized, ⟨few, home, settled⟩, none leaving, ?_, queue, line⟩
    by_contra some
    have claimed := claims.2 (List.countP_pos_iff.1 (Nat.pos_of_ne_zero some))
    rw [none leaving] at claimed
    cases claimed
  · rintro ⟨sized, ⟨few, home, settled⟩, claim, none, queue, line⟩
    refine ⟨sized, ⟨few, fun _ => ⟨home, settled, by simp [Schedule.claimsHome, claim], ?_, fun _ => claim⟩,
      fun joining => ?_, fun idle => ?_⟩, ?_, ?_, ?_, fun idle => ?_, line⟩
    · rw [claim, ← List.countP_pos_iff, none]
      simp
    · rw [leaving] at joining; cases joining
    · rw [sends] at idle; cases idle
    · simp [queue, CtlFrame.WellFormed]
    · simp [queue, State.dueClaims, claim]
    · rw [if_pos leaving]; exact queue
    · rw [sends] at idle; cases idle

theorem State.fitting_joining (joining : s.station.life = .joining) : s.Fitting ↔ s.sched.slots.length = s.scheduled
    ∧ (s.sched.slots.countP Entry.isOwn = 1 ∧ s.sched.slots.countP Entry.isHomeClaim = 1)
    ∧ (∃ phase, s.sched.claim = some ⟨.home, phase⟩)
    ∧ QueueFits s.scheduled s.dueClaims s.sender.queue ∧ s.lineMatchesQueue = true := by
  have sends : s.sendsControl = true := by simp [State.sendsControl, joining]
  have unserved : s.serves = false := by simp [State.serves, joining]
  have claims : s.sched.claimsHome = true ↔ ∃ phase, s.sched.claim = some ⟨.home, phase⟩ := by
    unfold Schedule.claimsHome
    cases claim : s.sched.claim with
    | none => simp
    | some c => obtain ⟨kind, phase⟩ := c; cases kind <;> simp
  have homes : s.sched.slots.countP Entry.isOwn = 1 →
      ((∀ e ∈ s.sched.slots, e.isOwn = true → e.isClaiming = true ∧ e.isHome = true)
        ↔ s.sched.slots.countP Entry.isHomeClaim = 1) := fun one => by
    rw [← one]
    constructor
    · intro all
      refine List.countP_congr fun e mem => ⟨fun both => Entry.own_of_home (Bool.and_eq_true_iff.1 both).1, fun own => ?_⟩
      exact Bool.and_eq_true_iff.2 (all e mem own).symm
    · intro same e mem own
      have narrow : (s.sched.slots.filter Entry.isHomeClaim).Sublist (s.sched.slots.filter Entry.isOwn) :=
        List.monotone_filter_right _ fun e both => Entry.own_of_home (Bool.and_eq_true_iff.1 both).1
      have all := narrow.eq_of_length (by rw [← List.countP_eq_length_filter, ← List.countP_eq_length_filter, same])
      have chosen : e ∈ s.sched.slots.filter Entry.isHomeClaim := all ▸ List.mem_filter.2 ⟨mem, own⟩
      exact (Bool.and_eq_true_iff.1 (List.mem_filter.1 chosen).2).symm
  rw [← State.queueCoherent_iff (by rw [joining]; exact nofun) sends, ← claims]
  constructor
  · rintro ⟨sized, ⟨-, -, home, -⟩, queue⟩
    obtain ⟨one, all, kind⟩ := home joining
    exact ⟨sized, ⟨one, (homes one).1 all⟩, kind, queue⟩
  · rintro ⟨sized, ⟨one, all⟩, kind, queue⟩
    refine ⟨sized, ⟨by rw [State.ownSlots, one]; omega, fun served => ?_, fun _ => ⟨one, (homes one).2 all, kind⟩, fun idle => ?_⟩, queue⟩
    · rw [unserved] at served; cases served
    · rw [sends] at idle; cases idle

end

/-! ### What the invariant reads -/

/-- What own entries, claim in flight and queue are coherent with. -/
def State.outline (s : State) : StationState × Option CycleCode × List (Bool × Bool × Bool) × Option Claim × List CtlFrame
    × Option OwnFrame :=
  (s.station.life, s.station.code, s.sched.slots.map Entry.role, s.sched.claim, s.sender.queue, s.line.own)

theorem State.Fitting.congr {s t : State} (h : s.Fitting) (same : t.outline = s.outline) : t.Fitting := by
  obtain ⟨life, code, roles, claim, queue, own⟩ : t.station.life = s.station.life ∧ t.station.code = s.station.code
      ∧ t.sched.slots.map Entry.role = s.sched.slots.map Entry.role ∧ t.sched.claim = s.sched.claim
      ∧ t.sender.queue = s.sender.queue ∧ t.line.own = s.line.own := by simpa [State.outline] using same
  have length : t.sched.slots.length = s.sched.slots.length := by simpa using congrArg List.length roles
  have entry : ∀ n, (t.entry n).role = (s.entry n).role := fun n => by
    have at_n := congrArg (·[n]?) roles
    simp only [List.getElem?_map] at at_n
    unfold State.entry
    rw [List.getD_eq_getElem?_getD, List.getD_eq_getElem?_getD]
    cases ht : t.sched.slots[n]? <;> cases hs : s.sched.slots[n]? <;> simp_all
  have scheduled := State.scheduled_congr code
  have sends : t.sendsControl = s.sendsControl := by simp only [State.sendsControl, State.serves, life]
  have claiming : t.slotsWhere Entry.isClaiming = s.slotsWhere Entry.isClaiming :=
    State.slotsWhere_congr length fun n => congrArg (·.2.1) (entry n)
  have due : t.dueClaims = s.dueClaims := by simp only [State.dueClaims, claim, claiming]
  have line : t.lineMatchesQueue = s.lineMatchesQueue := by simp only [State.lineMatchesQueue, own, queue, life]
  have owns := State.countP_congr (p := Entry.isOwn) length fun n => congrArg (·.1) (entry n)
  have claimed := State.countP_congr (p := Entry.isClaiming) length fun n => congrArg (·.2.1) (entry n)
  have homes := State.countP_congr (p := Entry.isHome) length fun n => congrArg (·.2.2) (entry n)
  have homeClaims := State.countP_congr (p := Entry.isHomeClaim) length fun n =>
    congrArg (fun r : Bool × Bool × Bool => r.2.2 && r.2.1) (entry n)
  have anchored : s.Anchored → t.Anchored := fun h => ⟨owns ▸ h.few, homes ▸ h.home, homeClaims ▸ h.held⟩
  cases state : s.station.life with
  | joined =>
    obtain ⟨sized, home, reserving, fits, matching⟩ := (State.fitting_joined state).1 h
    refine (State.fitting_joined (life.trans state)).2 ⟨by rw [length, sized, scheduled], anchored home, ?_, ?_, line ▸ matching⟩
    · unfold State.Reserving at *
      rwa [claim, claimed]
    · rwa [scheduled, due, queue]
  | leaving =>
    obtain ⟨sized, home, none, unclaimed, fits, matching⟩ := (State.fitting_leaving state).1 h
    exact (State.fitting_leaving (life.trans state)).2 ⟨by rw [length, sized, scheduled], anchored home, claim.trans none,
      claimed.trans unclaimed, queue.trans fits, line ▸ matching⟩
  | joining =>
    obtain ⟨sized, ⟨one, home⟩, ⟨phase, kind⟩, fits, matching⟩ := (State.fitting_joining state).1 h
    exact (State.fitting_joining (life.trans state)).2 ⟨by rw [length, sized, scheduled], ⟨owns.trans one, homeClaims.trans home⟩,
      ⟨phase, claim.trans kind⟩, by rwa [scheduled, due, queue], line ▸ matching⟩
  | _ =>
    have idle : s.sendsControl = false := by simp [State.sendsControl, State.serves, state]
    obtain ⟨sized, none, unclaimed, empty, free⟩ := (State.fitting_idle idle).1 h
    exact (State.fitting_idle (sends.trans idle)).2 ⟨by rw [length, sized, scheduled], owns.trans none, claim.trans unclaimed,
      queue.trans empty, by unfold State.LineFree; rwa [own]⟩

end Sys2Proof.Machine

/-!
PROOFS. What the losses, wins and moves of the station keep of own entries, claim in flight and control queue.
-/

namespace Sys2Proof.Machine

/-! ### Claims and entries -/

theorem State.dueClaims_none {s : State} (claim : s.sched.claim = none) : s.dueClaims = [] := by
  simp only [State.dueClaims, claim]

theorem State.dueClaims_announced {s : State} {kind : ClaimKind} {fresh : Bool}
    (claim : s.sched.claim = some ⟨kind, .announced fresh⟩) : s.dueClaims = [] := by
  simp only [State.dueClaims, claim]

theorem State.dueClaims_unsent {s : State} {kind : ClaimKind} (claim : s.sched.claim = some ⟨kind, .unsent⟩) :
    s.dueClaims = [⟨.claim, s.slotsWhere Entry.isClaiming⟩] := by
  simp only [State.dueClaims, claim]

/-- A queue whose CLAIM frames are due holds one exactly while the claim is UNSENT. -/
theorem State.unsent_of_due {s : State} {f : CtlFrame} {rest : List CtlFrame} (due : s.dueClaims = f :: rest) :
    ∃ kind, s.sched.claim = some ⟨kind, .unsent⟩ := by
  cases claim : s.sched.claim with
  | none => rw [State.dueClaims_none claim] at due; cases due
  | some c =>
    obtain ⟨kind, phase⟩ := c
    cases phase with
    | unsent => exact ⟨kind, rfl⟩
    | announced fresh => rw [State.dueClaims_announced claim] at due; cases due

theorem State.dueClaims_setEntry {s : State} {n : Nat} {e : Entry} (same : e.isClaiming = (s.entry n).isClaiming) :
    (s.setEntry n e).dueClaims = s.dueClaims := by
  have claiming : (s.setEntry n e).slotsWhere Entry.isClaiming = s.slotsWhere Entry.isClaiming :=
    State.slotsWhere_congr (by simp [State.setEntry]) fun k => by
      rw [State.entry_setEntry]
      split
      · rename_i here
        rw [same, here.1]
      · rfl
  simp only [State.dueClaims, claiming]
  rfl

theorem State.withFrame_queue (s : State) (f : CtlFrame) : (s.withFrame f).queue = s.sender.queue ++ [f] := by
  unfold State.withFrame
  by_cases empty : s.sender.queue = [] <;> simp [empty]

theorem State.withoutHead_queue (s : State) : s.withoutHead.queue = s.sender.queue.tail := by
  unfold State.withoutHead
  cases tail : s.sender.queue.tail <;> rfl

theorem State.withoutClaim_queue {s : State} {before after : List CtlFrame} {slots : List Nat}
    (queued : s.ClaimQueued before slots after) : (s.withoutClaim before after).queue = before ++ after := by
  unfold State.withoutClaim
  split
  · rename_i first
    rw [State.withoutHead_queue, queued.1, first]
    rfl
  · rfl

theorem CtlFrame.wellFormed_claim {D : Nat} {slots : List Nat} (some : slots ≠ []) (most : slots.length ≤ 8)
    (ascending : slots.Pairwise (· < ·)) (inside : ∀ n ∈ slots, n < D) : CtlFrame.WellFormed D ⟨.claim, slots⟩ :=
  ⟨List.length_pos_iff.2 some, most, ascending, inside⟩

/-- An entry that is no own one. -/
theorem Entry.foreign {e : Entry} (other : e.isOwn = false) :
    e.isClaiming = false ∧ e.isHome = false ∧ e.isHomeClaim = false := by
  cases e <;> simp_all [Entry.isOwn, Entry.isClaiming, Entry.isHome, Entry.isHomeClaim]

/-! ### A home pick -/

/-- A station without own entries and without a claim, which may pick (R30). -/
structure State.Vacant (s : State) : Prop where
  sized : s.sched.slots.length = s.scheduled
  unowned : s.sched.slots.countP Entry.isOwn = 0
  unclaimed : s.sched.claim = none
  queue : QueueFits s.scheduled [] s.sender.queue
  line : s.LineFree
  waiting : s.station.life = .waiting → s.sender.queue = []

theorem State.Vacant.post {s : State} (h : s.Vacant) (e : Event) : (s.post e).Vacant := by
  obtain ⟨sized, unowned, unclaimed, queue, line, waiting⟩ := h
  rw [State.post_eq]
  exact ⟨sized, unowned, unclaimed, queue, line, waiting⟩

theorem State.Vacant.homePick {s : State} (h : s.Vacant) : s.homePick.Fitting := by
  obtain ⟨n, room, lowest, pick⟩ | ⟨-, ⟨waits, pick⟩ | ⟨-, pick⟩⟩ := s.homePick_cases
  · obtain ⟨used, free, -⟩ := (s.lowestFree_eq_some n).1 lowest
    rw [pick]
    set u : State := { s with
      station.life := .joining
      sched := ⟨s.sched.slots.set n (.ownClaiming .shared true none), some ⟨.home, .unsent⟩⟩
      sender := s.withFrame ⟨.claim, [n]⟩ } with hu
    have entry : ∀ k, u.entry k = (s.setEntry n (.ownClaiming .shared true none)).entry k := fun _ => rfl
    have claiming : u.slotsWhere Entry.isClaiming = [n] := by
      refine State.slotsWhere_eq (List.pairwise_singleton _ _) fun k => ?_
      rw [entry, State.entry_setEntry, List.mem_singleton]
      constructor
      · rintro rfl
        rw [if_pos ⟨rfl, used⟩]
        exact ⟨by simpa [hu] using used, rfl⟩
      · rintro ⟨-, claimed⟩
        by_contra other
        rw [if_neg fun here => other here.1] at claimed
        have := State.entry_of_countP h.unowned rfl k
        rw [Entry.own_of_claiming claimed] at this
        cases this
    have counted := fun p => State.countP_setEntry (p := p) used (.ownClaiming .shared true none)
    have noHome : s.sched.slots.countP Entry.isHomeClaim = 0 := by
      have := countP_narrow (p := Entry.isHomeClaim) (q := Entry.isOwn) s.sched.slots fun e both =>
        Entry.own_of_home (Bool.and_eq_true_iff.1 both).1
      rw [h.unowned] at this
      omega
    refine (State.fitting_joining (s := u) rfl).2 ⟨(List.length_set ..).trans h.sized, ⟨?_, ?_⟩, ⟨_, rfl⟩, ?_, State.LineFree.matches h.line⟩
    · have := counted Entry.isOwn
      rw [free, h.unowned] at this
      exact this
    · have := counted Entry.isHomeClaim
      rw [free, noHome] at this
      exact this
    · rw [State.dueClaims_unsent (s := u) rfl, claiming]
      change QueueFits s.scheduled _ (s.withFrame ⟨.claim, [n]⟩).queue
      rw [State.withFrame_queue]
      exact h.queue.append (CtlFrame.wellFormed_claim (by simp) (by simp) (by simp) (by simp [← h.sized, used])) nofun
  · rw [pick]
    exact (State.fitting_idle (by simp [State.sendsControl, State.serves, waits])).2
      ⟨h.sized, h.unowned, h.unclaimed, h.waiting waits, h.line⟩
  · rw [pick, State.post_eq]
    exact (State.fitting_idle rfl).2 ⟨h.sized, h.unowned, h.unclaimed, rfl, h.line⟩

/-- The move to OFFLINE leaves nothing to fit (R37). -/
theorem State.offLink_fitting (s : State) (r : LeftReason) : (s.offLink r).Fitting := by
  unfold State.offLink
  rw [State.post_eq]
  refine (State.fitting_idle rfl).2 ⟨List.length_replicate .., List.countP_eq_zero.2 fun e mem => ?_, rfl, rfl, fun f mem => ?_⟩
  · rw [List.eq_of_mem_replicate mem]
    exact Bool.false_ne_true
  · obtain ⟨g, -, rfl⟩ := Option.mem_map.1 mem
    exact .inl rfl

/-! ### A claimed slot lost -/

section
variable {s : State} {n : Nat} {e : Entry} (foreign : e.isOwn = false)

include foreign in
theorem State.slotsWhere_lost : (s.setEntry n e).slotsWhere Entry.isClaiming
    = (s.slotsWhere Entry.isClaiming).filter (· != n) := by
  refine State.slotsWhere_eq ((s.slotsWhere_sorted _).filter _) fun k => ?_
  rw [List.mem_filter, State.mem_slotsWhere, State.entry_setEntry, bne_iff_ne]
  have length : (s.setEntry n e).sched.slots.length = s.sched.slots.length := by simp [State.setEntry]
  rw [length]
  by_cases here : k = n
  · subst here
    by_cases used : k < s.sched.slots.length
    · simp [used, (Entry.foreign foreign).1]
    · simp [used]
  · simp [here]

variable (fits : QueueFits s.scheduled s.dueClaims s.sender.queue)
include foreign fits

/-- The queued CLAIM frame keeps to the slots that are still claimed (R68, R88). -/
theorem State.editClaim_fits {kind : ClaimKind} (unsent : s.sched.claim = some ⟨kind, .unsent⟩) :
    ∃ o, (s.setEntry n e).editClaim n = { s.setEntry n e with sender := o } ∧
      QueueFits s.scheduled (if (s.setEntry n e).slotsWhere Entry.isClaiming = [] then []
        else [⟨.claim, (s.setEntry n e).slotsWhere Entry.isClaiming⟩]) o.queue := by
  rw [State.dueClaims_unsent unsent] at fits
  obtain ⟨before, after, queue, others, rest⟩ := fits.split
  have queued : (s.setEntry n e).ClaimQueued before (s.slotsWhere Entry.isClaiming) after := ⟨queue, others⟩
  rw [State.slotsWhere_lost foreign]
  by_cases last : (s.slotsWhere Entry.isClaiming).filter (· != n) = []
  · refine ⟨_, State.editClaim_drops queued last, ?_⟩
    rw [if_pos last, State.withoutClaim_queue queued]
    exact rest
  · refine ⟨_, State.editClaim_keeps queued last, ?_⟩
    rw [if_neg last]
    obtain ⟨-, most, ascending, inside⟩ := fits.formed ⟨.claim, s.slotsWhere Entry.isClaiming⟩ (by rw [queue]; simp)
    exact rest.insert (CtlFrame.wellFormed_claim last
      (Nat.le_trans (List.length_filter_le ..) most) (ascending.filter _) fun k mem => inside k (List.mem_filter.1 mem).1)

/-- A claim with no slot left is gone from the queue and lost; one with slots left lists them (R68, R69). -/
theorem State.lossNotice_claimed {b : Binding} {f : Bool} {k : Option Nat} : ∃ o : OpenSender, ∃ u : State,
    u = { s.setEntry n e with sender := o }
    ∧ (s.setEntry n e).lossNotice n (.ownClaiming b f k) = (if u.sched.slots.any Entry.isClaiming then u else u.claimLost)
    ∧ QueueFits s.scheduled (if (s.setEntry n e).slotsWhere Entry.isClaiming = [] then [] else (s.setEntry n e).dueClaims)
      o.queue := by
  have same : (s.setEntry n e).sched.claim = s.sched.claim := rfl
  cases claim : s.sched.claim with
  | none =>
    refine ⟨s.sender, _, rfl, by simp only [State.lossNotice, same, claim]; rfl, ?_⟩
    rw [State.dueClaims_none (same.trans claim), ite_self]
    rwa [State.dueClaims_none claim] at fits
  | some c =>
    obtain ⟨kind, phase⟩ := c
    cases phase with
    | unsent =>
      obtain ⟨o, edited, held⟩ := State.editClaim_fits (n := n) foreign fits claim
      refine ⟨o, _, rfl, by simp only [State.lossNotice, same, claim, edited], ?_⟩
      rwa [State.dueClaims_unsent (same.trans claim)]
    | announced fresh =>
      refine ⟨s.sender, _, rfl, by simp only [State.lossNotice, same, claim]; rfl, ?_⟩
      rw [State.dueClaims_announced (same.trans claim), ite_self]
      rwa [State.dueClaims_announced claim] at fits

end

theorem State.claimLost_reservation {s : State} {lane : Nat} {phase : ClaimPhase}
    (claim : s.sched.claim = some ⟨.reservation lane, phase⟩) :
    s.claimLost = State.post { s with sched.claim := none } (.reserveDone lane 0) := by
  rw [State.claimLost_eq]
  simp only [claim]

theorem State.claimLost_home {s : State} {phase : ClaimPhase} (claim : s.sched.claim = some ⟨.home, phase⟩) :
    s.claimLost = State.homePick { s with sched.claim := none } := by
  rw [State.claimLost_eq]
  simp only [claim]

theorem State.any_claiming (s : State) : s.sched.slots.any Entry.isClaiming = true ↔ 0 < s.sched.slots.countP Entry.isClaiming := by
  rw [List.any_eq_true, List.countP_pos_iff]

theorem State.slotsWhere_empty (s : State) (p : Entry → Bool) : s.slotsWhere p = [] ↔ s.sched.slots.countP p = 0 := by
  rw [← State.slotsWhere_length, List.length_eq_zero_iff]

/-- A claimed slot lost leaves the rest of the claim, or ends it; a lost home claim is followed by a pick (R68 to R70). -/
theorem State.Fitting.claimingLost {s : State} (h : s.Fitting) {n : Nat} {b : Binding} {f : Bool} {k : Option Nat}
    (claimed : s.entry n = .ownClaiming b f k) (silent : s.line.own = none) {e : Entry} (foreign : e.isOwn = false) :
    ((s.setEntry n e).lossNotice n (.ownClaiming b f k)).Fitting := by
  have used : n < s.sched.slots.length := State.entry_lt (by rw [claimed]; exact nofun)
  have counted := fun p => State.countP_setEntry (p := p) used e
  have isClaimed : (s.entry n).isClaiming = true := by rw [claimed]; rfl
  obtain ⟨notClaiming, notHome, notHomeClaim⟩ := Entry.foreign foreign
  have owned : (s.setEntry n e).sched.slots.countP Entry.isOwn + 1 = s.sched.slots.countP Entry.isOwn := by
    have := counted Entry.isOwn
    rwa [claimed, foreign, if_pos (by rfl), if_neg Bool.false_ne_true] at this
  have some : 0 < s.sched.slots.countP Entry.isClaiming := State.countP_entry isClaimed rfl
  have length : (s.setEntry n e).sched.slots.length = s.scheduled := by
    rw [← h.sized]; simp [State.setEntry]
  set v := s.setEntry n e with hv
  have scheduled : v.scheduled = s.scheduled := rfl
  cases life : s.station.life with
  | joined =>
    obtain ⟨sized, anchored, reserving, fits, -⟩ := (State.fitting_joined life).1 h
    obtain ⟨o, u, hu, lost, held⟩ := State.lossNotice_claimed (n := n) (b := b) (f := f) (k := k) foreign fits
    rw [← hv] at hu lost held
    have away : f = false := by
      have := State.entry_of_countP anchored.held rfl n
      simpa [claimed, Entry.isHomeClaim, Entry.isHome, Entry.isClaiming] using this
    have anchor : v.Anchored := by
      refine ⟨by have := anchored.few; omega, ?_, ?_⟩
      · have := counted Entry.isHome
        rw [claimed, away, notHome, anchored.home] at this
        simpa [Entry.isHome] using this
      · have := counted Entry.isHomeClaim
        rw [claimed, away, notHomeClaim, anchored.held] at this
        simpa [Entry.isHomeClaim, Entry.isHome] using this
    obtain ⟨-, none⟩ | ⟨lane, phase, claim, -⟩ := reserving
    · omega
    rw [lost, hu]
    by_cases more : 0 < v.sched.slots.countP Entry.isClaiming
    · rw [if_pos ((State.any_claiming { v with sender := o }).2 more)]
      have listed : v.slotsWhere Entry.isClaiming ≠ [] := fun empty => by
        rw [State.slotsWhere_empty] at empty
        omega
      rw [if_neg listed] at held
      exact (State.fitting_joined (s := { v with sender := o }) life).2 ⟨length, ⟨anchor.few, anchor.home, anchor.held⟩,
        .inr ⟨lane, phase, claim, more⟩, held, State.LineFree.matches (State.LineFree.of_none (s := { v with sender := o }) silent)⟩
    · rw [if_neg (mt (State.any_claiming { v with sender := o }).1 more),
        State.claimLost_reservation (s := { v with sender := o }) claim, State.post_eq]
      have last : v.sched.slots.countP Entry.isClaiming = 0 := by omega
      rw [if_pos ((v.slotsWhere_empty _).2 last)] at held
      refine (State.fitting_joined ?_).2 ⟨length, ⟨anchor.few, anchor.home, anchor.held⟩, .inl ⟨rfl, last⟩, held,
        State.LineFree.matches (State.LineFree.of_none silent)⟩
      exact life
  | joining =>
    obtain ⟨sized, ⟨one, -⟩, ⟨phase, claim⟩, fits, -⟩ := (State.fitting_joining life).1 h
    obtain ⟨o, u, hu, lost, held⟩ := State.lossNotice_claimed (n := n) (b := b) (f := f) (k := k) foreign fits
    rw [← hv] at hu lost held
    have unowned : v.sched.slots.countP Entry.isOwn = 0 := by omega
    have last : v.sched.slots.countP Entry.isClaiming = 0 := by
      have := countP_narrow (p := Entry.isClaiming) (q := Entry.isOwn) v.sched.slots fun e => Entry.own_of_claiming
      omega
    rw [if_pos ((v.slotsWhere_empty _).2 last)] at held
    rw [lost, hu, if_neg (mt (State.any_claiming { v with sender := o }).1 (by change ¬ 0 < v.sched.slots.countP _; omega)),
      State.claimLost_home (s := { v with sender := o }) claim]
    refine State.Vacant.homePick (s := { v with sched.claim := none, sender := o })
      ⟨length, unowned, rfl, held, State.LineFree.of_none silent, fun waits => ?_⟩
    rw [show s.station.life = .waiting from waits] at life
    cases life
  | leaving =>
    obtain ⟨-, -, -, none, -⟩ := (State.fitting_leaving life).1 h
    omega
  | _ =>
    obtain ⟨-, none, -⟩ := (State.fitting_idle (by simp [State.sendsControl, State.serves, life])).1 h
    omega

end Sys2Proof.Machine

/-!
PROOFS. What the loss of a held slot, a win, the readback of a control frame and the host's commands keep of own entries,
claim in flight and control queue.
-/

namespace Sys2Proof.Machine

/-! ### A held slot lost -/

/-- A station whose home slot has just been lost, before the loss is acted on (R33, R36, R78). -/
structure State.Unmoored (s : State) : Prop where
  sized : s.sched.slots.length = s.scheduled
  few : s.sched.slots.countP Entry.isOwn ≤ 8
  homeless : s.sched.slots.countP Entry.isHome = 0
  silent : s.line.own = none
  stage : s.station.life = .joined ∧ s.Reserving ∧ QueueFits s.scheduled s.dueClaims s.sender.queue
    ∨ s.station.life = .leaving ∧ s.sched.claim = none ∧ s.sched.slots.countP Entry.isClaiming = 0
      ∧ s.sender.queue = [⟨.leave, []⟩]

theorem State.Unmoored.post {s : State} (h : s.Unmoored) (e : Event) : (s.post e).Unmoored := by
  obtain ⟨sized, few, homeless, silent, stage⟩ := h
  rw [State.post_eq]
  exact ⟨sized, few, homeless, silent, stage⟩

theorem State.Unmoored.postAll {s : State} (h : s.Unmoored) (es : List Event) : (s.postAll es).Unmoored := by
  obtain ⟨sized, few, homeless, silent, stage⟩ := h
  rw [State.postAll_eq]
  exact ⟨sized, few, homeless, silent, stage⟩

/-- The home flag of another held slot moors the station again (R78). -/
theorem State.Unmoored.passes {s : State} (h : s.Unmoored) {n : Nat} {b : Binding} {f : Bool} {r : Nat}
    (held : s.entry n = .ownHeld b f r) : (s.setEntry n (.ownHeld b true r)).Fitting := by
  have used : n < s.sched.slots.length := State.entry_lt (by rw [held]; exact nofun)
  have counted := fun p => State.countP_setEntry (p := p) used (.ownHeld b true r)
  have away : f = false := by
    have := State.entry_of_countP h.homeless rfl n
    rwa [held] at this
  have noHomeClaim : s.sched.slots.countP Entry.isHomeClaim = 0 := by
    have := countP_narrow (p := Entry.isHomeClaim) (q := Entry.isHome) s.sched.slots fun e both =>
      (Bool.and_eq_true_iff.1 both).1
    rw [h.homeless] at this
    omega
  have anchored : (s.setEntry n (.ownHeld b true r)).Anchored := by
    refine ⟨?_, ?_, ?_⟩
    · have := counted Entry.isOwn
      have := h.few
      simp only [held, Entry.isOwn] at *
      omega
    · have := counted Entry.isHome
      rw [held, away, h.homeless] at this
      exact this
    · have := counted Entry.isHomeClaim
      rw [held, away, noHomeClaim] at this
      exact this
  have claiming : (s.setEntry n (.ownHeld b true r)).sched.slots.countP Entry.isClaiming
      = s.sched.slots.countP Entry.isClaiming := by
    have := counted Entry.isClaiming
    rw [held] at this
    exact this
  have sized : (s.setEntry n (.ownHeld b true r)).sched.slots.length = s.scheduled := by
    rw [← h.sized]; simp [State.setEntry]
  have due : (s.setEntry n (.ownHeld b true r)).dueClaims = s.dueClaims := State.dueClaims_setEntry (by rw [held]; rfl)
  have line := State.LineFree.matches (s := s.setEntry n (.ownHeld b true r)) (.of_none h.silent)
  obtain ⟨life, reserving, queue⟩ | ⟨life, claim, none, queue⟩ := h.stage
  · refine (State.fitting_joined (s := s.setEntry n (.ownHeld b true r)) life).2 ⟨sized, anchored, ?_, by rw [due]; exact queue, line⟩
    unfold State.Reserving
    rw [claiming]
    exact reserving
  · exact (State.fitting_leaving (s := s.setEntry n (.ownHeld b true r)) life).2 ⟨sized, anchored, claim, claiming.trans none, queue, line⟩

theorem State.unowned_map {l : List Entry} {f : Entry → Entry} (foreign : ∀ e, (f e).isOwn = false) :
    (l.map f).countP Entry.isOwn = 0 := by
  rw [List.countP_map]
  exact List.countP_eq_zero.2 fun e _ => by simp [foreign e]

theorem Entry.disowned (e : Entry) : (if e.isOwn then .free else e : Entry).isOwn = false := by
  cases e <;> rfl

/-- A home slot lost is passed on, or ends the stay, or brings a new pick (R33, R36, R78). -/
theorem State.Unmoored.homeLost {s : State} (h : s.Unmoored) : s.homeLost.Fitting := by
  obtain ⟨n, found, passes⟩ | ⟨unheld, -⟩ := s.homeLost_cases
  · obtain ⟨used, held, -⟩ := List.findIdx?_eq_some_iff_getElem.1 found
    have here : s.sched.slots[n] = s.entry n := by simp [State.entry, used]
    rw [here] at held
    rw [passes]
    cases entry : s.entry n with
    | ownHeld b f r => exact h.passes entry
    | _ => rw [entry] at held; cases held
  · have bare : ∀ k, (s.entry k).isHeld = false := fun k => by
      obtain mem | free := s.entry_mem k
      · exact Bool.eq_false_iff.2 (by simpa using List.findIdx?_eq_none_iff.1 unheld _ mem)
      · rw [free]; rfl
    obtain ⟨life, reserving, queue⟩ | ⟨life, -⟩ := h.stage
    · have notWaiting : s.station.life ≠ .waiting := by rw [life]; exact nofun
      obtain ⟨claim, unclaimed⟩ | ⟨lane, phase, claim, -⟩ := reserving
      · rw [State.homeLost_unclaimed bare life claim]
        refine State.Vacant.homePick ⟨(List.length_map _).trans h.sized, ?_, claim, ?_, .of_none h.silent,
          fun waits => absurd waits notWaiting⟩
        · change (s.sched.slots.map _).countP Entry.isOwn = 0
          rw [List.countP_map]
          refine List.countP_eq_zero.2 fun e mem => ?_
          have idle : e.isClaiming = false := by simpa using List.countP_eq_zero.1 unclaimed e mem
          cases e <;> simp_all [Entry.freeIf, Entry.isOwn, Entry.isClaiming]
        · rw [State.dueClaims_none claim] at queue
          exact queue
      · have startsOver : ∀ o : OpenSender, QueueFits s.scheduled [] o.queue → (s.startsOver lane o).Fitting := fun o fits => by
          refine State.Vacant.homePick (State.Vacant.post (s := { s with
            sched := ⟨s.sched.slots.map fun e => if e.isOwn then .free else e, none⟩, sender := o })
            ⟨(List.length_map _).trans h.sized, State.unowned_map Entry.disowned, rfl, fits, .of_none h.silent,
              fun waits => absurd waits notWaiting⟩ _)
        cases phase with
        | unsent =>
          rw [State.dueClaims_unsent claim] at queue
          obtain ⟨before, after, split, others, rest⟩ := queue.split
          have queued : s.ClaimQueued before (s.slotsWhere Entry.isClaiming) after := ⟨split, others⟩
          rw [State.homeLost_unsent bare life claim queued]
          refine startsOver _ ?_
          rwa [State.withoutClaim_queue queued]
        | announced fresh =>
          rw [State.dueClaims_announced claim] at queue
          have unqueued : ∀ f ∈ s.sender.queue, f.kind ≠ .claim := fun f mem => by
            simpa using List.filter_eq_nil_iff.1 queue.claims f mem
          rw [State.homeLost_announced bare life claim unqueued]
          exact startsOver _ queue
    · rw [State.homeLost_leaving bare life]
      exact s.offLink_fitting _

section
variable {s : State} (h : s.Fitting) {n : Nat} (own : (s.entry n).isOwn = true) (settled : (s.entry n).isClaiming = false)
  {e : Entry} (foreign : e.isOwn = false)
include h own settled foreign

/-- What a held slot lost leaves of the others. -/
theorem State.Fitting.heldCounts : s.sched.slots.length = s.scheduled
    ∧ (s.setEntry n e).sched.slots.length = s.scheduled ∧ (s.setEntry n e).dueClaims = s.dueClaims
    ∧ (s.setEntry n e).sched.slots.countP Entry.isOwn + 1 = s.sched.slots.countP Entry.isOwn
    ∧ (s.setEntry n e).sched.slots.countP Entry.isClaiming = s.sched.slots.countP Entry.isClaiming
    ∧ (s.setEntry n e).sched.slots.countP Entry.isHomeClaim = s.sched.slots.countP Entry.isHomeClaim
    ∧ (s.setEntry n e).sched.slots.countP Entry.isHome + (if (s.entry n).isHome = true then 1 else 0)
      = s.sched.slots.countP Entry.isHome := by
  have used : n < s.sched.slots.length := State.entry_lt fun free => by rw [free] at own; cases own
  have counted := fun p => State.countP_setEntry (p := p) used e
  obtain ⟨notClaiming, notHome, notHomeClaim⟩ := Entry.foreign foreign
  refine ⟨h.sized, (by rw [← h.sized]; simp [State.setEntry]), State.dueClaims_setEntry (notClaiming.trans settled.symm), ?_, ?_, ?_, ?_⟩
  · have := counted Entry.isOwn
    rwa [own, foreign, if_pos rfl, if_neg Bool.false_ne_true] at this
  · have := counted Entry.isClaiming
    rwa [settled, notClaiming] at this
  · have := counted Entry.isHomeClaim
    have before : (s.entry n).isHomeClaim = false := by simp [Entry.isHomeClaim, settled]
    rwa [before, notHomeClaim] at this
  · have := counted Entry.isHome
    rwa [notHome, if_neg Bool.false_ne_true] at this

/-- A station that holds slots is JOINED or LEAVING. -/
theorem State.Fitting.holds : s.Anchored ∧
    (s.station.life = .joined ∧ s.Reserving ∧ QueueFits s.scheduled s.dueClaims s.sender.queue
      ∨ s.station.life = .leaving ∧ s.sched.claim = none ∧ s.sched.slots.countP Entry.isClaiming = 0
        ∧ s.sender.queue = [⟨.leave, []⟩]) := by
  have some : 0 < s.sched.slots.countP Entry.isOwn := State.countP_entry own rfl
  cases life : s.station.life with
  | joined =>
    obtain ⟨-, anchored, reserving, queue, -⟩ := (State.fitting_joined life).1 h
    exact ⟨anchored, .inl ⟨rfl, reserving, queue⟩⟩
  | leaving =>
    obtain ⟨-, anchored, claim, none, queue, -⟩ := (State.fitting_leaving life).1 h
    exact ⟨anchored, .inr ⟨rfl, claim, none, queue⟩⟩
  | joining =>
    obtain ⟨-, ⟨one, all⟩, -⟩ := (State.fitting_joining life).1 h
    have narrow := countP_narrow (p := Entry.isHomeClaim) (q := Entry.isClaiming) (s.setEntry n e).sched.slots fun e both =>
      (Bool.and_eq_true_iff.1 both).2
    have narrow' := countP_narrow (p := Entry.isClaiming) (q := Entry.isOwn) (s.setEntry n e).sched.slots fun e =>
      Entry.own_of_claiming
    obtain ⟨-, -, -, owned, -, homeClaims, -⟩ := h.heldCounts own settled foreign
    omega
  | _ =>
    obtain ⟨-, none, -⟩ := (State.fitting_idle (by simp [State.sendsControl, State.serves, life])).1 h
    omega

variable (silent : s.line.own = none)
include silent

/-- The loss of a held slot other than the home slot. -/
theorem State.Fitting.heldLost (away : (s.entry n).isHome = false) : (s.setEntry n e).Fitting := by
  obtain ⟨-, sized, due, owned, claiming, homeClaims, homes⟩ := h.heldCounts own settled foreign
  obtain ⟨anchored, stage⟩ := h.holds own settled foreign
  have anchored' : (s.setEntry n e).Anchored := by
    refine ⟨by have := anchored.few; omega, ?_, homeClaims.trans anchored.held⟩
    rw [away, anchored.home] at homes
    exact homes
  have line := State.LineFree.matches (s := s.setEntry n e) (.of_none silent)
  obtain ⟨life, reserving, queue⟩ | ⟨life, claim, none, queue⟩ := stage
  · refine (State.fitting_joined (s := s.setEntry n e) life).2 ⟨sized, anchored', ?_, by rw [due]; exact queue, line⟩
    unfold State.Reserving
    rw [claiming]
    exact reserving
  · exact (State.fitting_leaving (s := s.setEntry n e) life).2 ⟨sized, anchored', claim, claiming.trans none, queue, line⟩

/-- The loss of the home slot unmoors the station. -/
theorem State.Fitting.unmoored (home : (s.entry n).isHome = true) : (s.setEntry n e).Unmoored := by
  obtain ⟨-, sized, due, owned, claiming, homeClaims, homes⟩ := h.heldCounts own settled foreign
  obtain ⟨anchored, stage⟩ := h.holds own settled foreign
  have one := anchored.home
  have few := anchored.few
  refine ⟨sized, by omega, by rw [home, if_pos rfl] at homes; omega, silent, ?_⟩
  obtain ⟨life, reserving, queue⟩ | ⟨life, claim, none, queue⟩ := stage
  · refine .inl ⟨life, ?_, by rw [due]; exact queue⟩
    unfold State.Reserving
    rw [claiming]
    exact reserving
  · exact .inr ⟨life, claim, claiming.trans none, queue⟩

end

theorem State.setEntry_outline {s : State} {n : Nat} {e : Entry} (same : e.role = (s.entry n).role) :
    (s.setEntry n e).outline = s.outline := by
  have roles : (s.sched.slots.set n e).map Entry.role = s.sched.slots.map Entry.role := by
    rw [List.map_set, same]
    by_cases used : n < s.sched.slots.length
    · have here : (s.entry n).role = (s.sched.slots.map Entry.role)[n]'(by simpa using used) := by simp [State.entry, used]
      rw [here, List.set_getElem_self]
    · exact List.set_eq_of_length_le (by simpa using used)
  unfold State.outline
  simp only [State.setEntry, roles]

/-- An own slot that goes to another station, with all that the loss brings (R45). -/
theorem State.Fitting.lost {s : State} (h : s.Fitting) (silent : s.line.own = none) (n : Nat) {e : Entry}
    (foreign : e.isOwn = false) (unheld : (s.entry n).isHeld = false) :
    ((s.setEntry n e).lossNotice n (s.entry n)).Fitting := by
  obtain ⟨notClaiming, notHome, -⟩ := Entry.foreign foreign
  cases entry : s.entry n with
  | ownClaiming b f k => exact h.claimingLost entry silent foreign
  | ownHeld => rw [entry] at unheld; cases unheld
  | ownYielding b f r w =>
    have own : (s.entry n).isOwn = true := by rw [entry]; rfl
    have settled : (s.entry n).isClaiming = false := by rw [entry]; rfl
    simp only [State.lossNotice]
    cases f with
    | true => exact ((h.unmoored own settled foreign silent (by rw [entry]; rfl)).post _).homeLost
    | false =>
      refine (h.heldLost own settled foreign silent (by rw [entry]; rfl)).congr ?_
      rw [State.post_eq]
      rfl
  | _ =>
    refine h.congr (State.setEntry_outline ?_)
    rw [entry]
    simp only [Entry.role, foreign, notClaiming, notHome]
    rfl

end Sys2Proof.Machine

/-!
PROOFS. What a win, the readback of a control frame, the host's slot commands and the moves off the slots keep of own
entries, claim in flight and control queue.
-/

namespace Sys2Proof.Machine

/-! ### Entries changed all at once -/

/-- Entries changed one by one keep a count where the test reads the same of them. -/
theorem countP_map_same {p : Entry → Bool} {f : Entry → Entry} (l : List Entry) (same : ∀ e, p (f e) = p e) :
    (l.map f).countP p = l.countP p := by
  rw [List.countP_map]
  exact List.countP_congr fun e _ => by simp [same]

theorem State.map_outline {s : State} {f : Entry → Entry} (same : ∀ e, (f e).role = e.role) :
    State.outline { s with sched.slots := s.sched.slots.map f } = s.outline := by
  have roles : (s.sched.slots.map f).map Entry.role = s.sched.slots.map Entry.role := by
    rw [List.map_map]
    exact List.map_congr_left fun e _ => same e
  simp only [State.outline, roles]

theorem Entry.won_roles (e : Entry) : e.won.isOwn = e.isOwn ∧ e.won.isClaiming = false ∧ e.won.isHome = e.isHome
    ∧ e.won.isHomeClaim = false := by
  cases e <;> refine ⟨rfl, rfl, rfl, ?_⟩ <;> simp [Entry.won, Entry.isHomeClaim, Entry.isClaiming]

/-- A claim's entries given up. -/
theorem Entry.unclaimed_roles (e : Entry) : (if e.isClaiming then .free else e : Entry).isClaiming = false
    ∧ (if e.isClaiming then .free else e : Entry).isHomeClaim = false
    ∧ ((if e.isClaiming then .free else e : Entry).isOwn = true → e.isOwn = true)
    ∧ ((if e.isClaiming then .free else e : Entry).isHome = (e.isHome && !e.isHomeClaim)) := by
  cases e <;> simp [Entry.isClaiming, Entry.isHomeClaim, Entry.isOwn, Entry.isHome]

theorem countP_zero_of_false {p : Entry → Bool} {f : Entry → Entry} (l : List Entry) (none : ∀ e, p (f e) = false) :
    (l.map f).countP p = 0 := by
  rw [List.countP_map]
  exact List.countP_eq_zero.2 fun e _ => by simp [none e]

/-- A station keeps its held slots where its reservation ends with nothing gained. -/
theorem State.Anchored.unclaimed {s : State} (h : s.Anchored) {u : State} (slots : u.sched.slots = s.unclaimed.slots) :
    u.Anchored ∧ u.sched.slots.countP Entry.isClaiming = 0 := by
  rw [State.unclaimed] at slots
  refine ⟨⟨?_, ?_, ?_⟩, ?_⟩
  · rw [slots, List.countP_map]
    exact Nat.le_trans (countP_narrow _ fun e => (Entry.unclaimed_roles e).2.2.1) h.few
  · rw [slots, List.countP_map, ← h.home]
    refine List.countP_congr fun e mem => ?_
    have settled : e.isHomeClaim = false := by simpa using List.countP_eq_zero.1 h.held e mem
    simp [(Entry.unclaimed_roles e).2.2.2, settled]
  · rw [slots]
    exact countP_zero_of_false _ fun e => (Entry.unclaimed_roles e).2.1
  · rw [slots]
    exact countP_zero_of_false _ fun e => (Entry.unclaimed_roles e).1

/-- A station with one own entry, the home claim, gives it up. -/
theorem State.unclaimed_vacant {s : State} (one : s.sched.slots.countP Entry.isOwn = 1)
    (claimed : s.sched.slots.countP Entry.isHomeClaim = 1) : s.unclaimed.slots.countP Entry.isOwn = 0 := by
  have narrow : (s.sched.slots.filter Entry.isHomeClaim).Sublist (s.sched.slots.filter Entry.isOwn) :=
    List.monotone_filter_right _ fun e both => Entry.own_of_home (Bool.and_eq_true_iff.1 both).1
  have all := narrow.eq_of_length (by rw [← List.countP_eq_length_filter, ← List.countP_eq_length_filter, one, claimed])
  rw [State.unclaimed, List.countP_map]
  refine List.countP_eq_zero.2 fun e mem own => ?_
  have owned := (Entry.unclaimed_roles e).2.2.1 own
  have chosen : e ∈ s.sched.slots.filter Entry.isHomeClaim := all ▸ List.mem_filter.2 ⟨mem, owned⟩
  have claiming := (Bool.and_eq_true_iff.1 (List.mem_filter.1 chosen).2).2
  simp [claiming, Entry.isOwn] at own

theorem State.announced_outline {s : State} (slots : List Nat) (claim : Option Claim) :
    State.outline { s with sched := ⟨s.sched.slots.mapIdx fun n e => if n ∈ slots then e.announced else e, claim⟩ }
      = State.outline { s with sched.claim := claim } := by
  have roles : (s.sched.slots.mapIdx fun n e => if n ∈ slots then e.announced else e).map Entry.role
      = s.sched.slots.map Entry.role := by
    refine List.ext_getElem (by simp) fun n hn hn' => ?_
    simp only [List.getElem_map, List.getElem_mapIdx]
    generalize s.sched.slots[n]'(by simpa using hn') = e
    split
    · cases e <;> rfl
    · rfl
  simp only [State.outline, roles]

/-! ### The claim in flight -/

theorem State.lineMatches_congr {s t : State} (own : t.line.own = s.line.own) (queue : t.sender.queue = s.sender.queue)
    (leaving : (t.station.life == .leaving) = (s.station.life == .leaving)) : t.lineMatchesQueue = s.lineMatchesQueue := by
  simp only [State.lineMatchesQueue, own, queue, leaving]

section
variable {s : State} (h : s.Fitting)
include h

/-- A claim in flight is a JOINED station's reservation or a JOINING one's home claim (R59). -/
theorem State.Fitting.claims {kind : ClaimKind} {phase : ClaimPhase} (claim : s.sched.claim = some ⟨kind, phase⟩) :
    s.station.life = .joined ∧ (∃ lane, kind = .reservation lane) ∨ s.station.life = .joining ∧ kind = .home := by
  cases life : s.station.life with
  | joined =>
    obtain ⟨-, -, ⟨unclaimed, -⟩ | ⟨lane, _, other, -⟩, -⟩ := (State.fitting_joined life).1 h
    · rw [unclaimed] at claim; cases claim
    · rw [other] at claim
      exact .inl ⟨rfl, lane, by cases claim; rfl⟩
  | joining =>
    obtain ⟨-, -, ⟨_, other⟩, -⟩ := (State.fitting_joining life).1 h
    rw [other] at claim
    exact .inr ⟨rfl, by cases claim; rfl⟩
  | leaving =>
    obtain ⟨-, -, unclaimed, -⟩ := (State.fitting_leaving life).1 h
    rw [unclaimed] at claim; cases claim
  | _ =>
    obtain ⟨-, -, unclaimed, -⟩ := (State.fitting_idle (by simp [State.sendsControl, State.serves, life])).1 h
    rw [unclaimed] at claim; cases claim

/-- A frame of the queue other than a LEAVE stands at a JOINED or a JOINING station. -/
theorem State.Fitting.queued {f : CtlFrame} {rest : List CtlFrame} (queue : s.sender.queue = f :: rest)
    (stays : f.kind ≠ .leave) : (s.station.life = .joined ∨ s.station.life = .joining)
      ∧ QueueFits s.scheduled s.dueClaims s.sender.queue := by
  cases life : s.station.life with
  | joined =>
    obtain ⟨-, -, -, fits, -⟩ := (State.fitting_joined life).1 h
    exact ⟨.inl rfl, fits⟩
  | joining =>
    obtain ⟨-, -, -, fits, -⟩ := (State.fitting_joining life).1 h
    exact ⟨.inr rfl, fits⟩
  | leaving =>
    obtain ⟨-, -, -, -, leave, -⟩ := (State.fitting_leaving life).1 h
    rw [queue] at leave
    obtain ⟨rfl, -⟩ := List.cons.inj leave
    exact absurd rfl stays
  | _ =>
    obtain ⟨-, -, -, empty, -⟩ := (State.fitting_idle (by simp [State.sendsControl, State.serves, life])).1 h
    rw [empty] at queue; cases queue

/-- An own frame that has left the line is reported to no head. -/
theorem State.Fitting.setLine {line : LineUnit} (silent : line.own = none) : State.Fitting { s with line := line } := by
  obtain ⟨formed, claims, stays, idle, -⟩ := h.queue
  exact ⟨h.sized, h.home, formed, claims, stays, idle, State.LineFree.matches (State.LineFree.of_none silent)⟩

/-- Another queue that fits the claim. -/
theorem State.Fitting.setQueue (engaged : s.station.life = .joined ∨ s.station.life = .joining) {o : OpenSender}
    (fits : QueueFits s.scheduled s.dueClaims o.queue) (line : State.lineMatchesQueue { s with sender := o } = true) :
    State.Fitting { s with sender := o } := by
  obtain life | life := engaged
  · obtain ⟨sized, anchored, reserving, -⟩ := (State.fitting_joined life).1 h
    exact (State.fitting_joined (s := { s with sender := o }) life).2
      ⟨sized, ⟨anchored.few, anchored.home, anchored.held⟩, reserving, fits, line⟩
  · obtain ⟨sized, home, claim, -⟩ := (State.fitting_joining life).1 h
    exact (State.fitting_joining (s := { s with sender := o }) life).2 ⟨sized, home, claim, fits, line⟩

/-- The claim in flight in another phase, with the queue that fits it. -/
theorem State.Fitting.setPhase {kind : ClaimKind} {phase : ClaimPhase} (claim : s.sched.claim = some ⟨kind, phase⟩)
    {fresh : Bool} {o : OpenSender} (fits : QueueFits s.scheduled [] o.queue)
    (line : State.lineMatchesQueue { s with sender := o } = true) :
    State.Fitting { s with sched.claim := some ⟨kind, .announced fresh⟩, sender := o } := by
  obtain ⟨life, lane, rfl⟩ | ⟨life, rfl⟩ := h.claims claim
  · obtain ⟨sized, anchored, reserving, -⟩ := (State.fitting_joined life).1 h
    obtain ⟨unclaimed, -⟩ | ⟨-, -, -, some⟩ := reserving
    · rw [unclaimed] at claim; cases claim
    · refine (State.fitting_joined ?_).2 ⟨sized, ⟨anchored.few, anchored.home, anchored.held⟩, .inr ⟨lane, _, rfl, some⟩, fits, line⟩
      exact life
  · obtain ⟨sized, home, -⟩ := (State.fitting_joining life).1 h
    refine (State.fitting_joining ?_).2 ⟨sized, home, ⟨_, rfl⟩, fits, line⟩
    exact life

/-- A reservation given up (R71, R80). -/
theorem State.Fitting.reservationEnds {lane : Nat} {phase : ClaimPhase} (claim : s.sched.claim = some ⟨.reservation lane, phase⟩)
    {o : OpenSender} (fits : QueueFits s.scheduled [] o.queue) (line : State.lineMatchesQueue { s with sender := o } = true) :
    State.Fitting { s with sched := s.unclaimed, sender := o } := by
  obtain ⟨life, -⟩ | ⟨-, other⟩ := h.claims claim
  · obtain ⟨sized, anchored, -⟩ := (State.fitting_joined life).1 h
    obtain ⟨kept, unclaimed⟩ := anchored.unclaimed (u := { s with sched := s.unclaimed, sender := o }) rfl
    exact (State.fitting_joined (s := { s with sched := s.unclaimed, sender := o }) life).2
      ⟨(List.length_map _).trans sized, kept, .inl ⟨rfl, unclaimed⟩, fits, line⟩
  · cases other

/-- A home claim given up leaves a station that picks anew (R71). -/
theorem State.Fitting.homeClaimEnds {phase : ClaimPhase} (claim : s.sched.claim = some ⟨.home, phase⟩)
    {o : OpenSender} (fits : QueueFits s.scheduled [] o.queue) (silent : s.line.own = none) :
    State.Vacant { s with sched := s.unclaimed, sender := o } := by
  obtain ⟨-, lane, other⟩ | ⟨life, -⟩ := h.claims claim
  · cases other
  · obtain ⟨sized, ⟨one, home⟩, -⟩ := (State.fitting_joining life).1 h
    refine ⟨(List.length_map _).trans sized, State.unclaimed_vacant one home, rfl, fits, .of_none silent, fun waits => ?_⟩
    rw [show s.station.life = .waiting from waits] at life
    cases life

/-! ### Wins -/

theorem State.Fitting.winClaim : s.winClaim.Fitting := by
  obtain ⟨kind, -, claim, -⟩ | ⟨-, same⟩ := s.winClaim_cases
  · have own := countP_map_same (p := Entry.isOwn) s.sched.slots fun e => (Entry.won_roles e).1
    have homes := countP_map_same (p := Entry.isHome) s.sched.slots fun e => (Entry.won_roles e).2.2.1
    have claiming := countP_zero_of_false (p := Entry.isClaiming) s.sched.slots fun e => (Entry.won_roles e).2.1
    have homeClaims := countP_zero_of_false (p := Entry.isHomeClaim) s.sched.slots fun e => (Entry.won_roles e).2.2.2
    have sized : (s.sched.slots.map Entry.won).length = s.scheduled := (List.length_map _).trans h.sized
    obtain ⟨life, lane, rfl⟩ | ⟨life, rfl⟩ := h.claims claim
    · rw [State.winClaim_reservation claim, State.post_eq]
      obtain ⟨-, anchored, -, queue, line⟩ := (State.fitting_joined life).1 h
      rw [State.dueClaims_announced claim] at queue
      refine (State.fitting_joined ?_).2 ⟨sized, ⟨own.trans_le anchored.few, homes.trans anchored.home, homeClaims⟩,
        .inl ⟨rfl, claiming⟩, queue, line⟩
      exact life
    · rw [State.winClaim_home claim, State.post_eq]
      obtain ⟨-, ⟨one, home⟩, -, queue, line⟩ := (State.fitting_joining life).1 h
      rw [State.dueClaims_announced claim] at queue
      have some : s.sched.slots.countP Entry.isHome = 1 := by
        have lower := countP_narrow (p := Entry.isHomeClaim) (q := Entry.isHome) s.sched.slots fun e both =>
          (Bool.and_eq_true_iff.1 both).1
        have upper := countP_narrow (p := Entry.isHome) (q := Entry.isOwn) s.sched.slots fun e => Entry.own_of_home
        omega
      refine (State.fitting_joined rfl).2 ⟨sized, ⟨own.trans_le (by omega), homes.trans some, homeClaims⟩,
        .inl ⟨rfl, claiming⟩, queue, ?_⟩
      rw [← line]
      exact State.lineMatches_congr rfl rfl (by rw [life]; rfl)
  · rwa [same]

/-! ### Readbacks of control frames -/

variable (silent : s.line.own = none) {f : CtlFrame} {rest : List CtlFrame} (queue : s.sender.queue = f :: rest)
include silent queue

omit silent in
/-- The CLAIM frame at the head of the queue is that of the claim, and the others hold none. -/
theorem State.Fitting.claimAtHead (kind : f.kind = .claim) : (∃ claim, s.sched.claim = some ⟨claim, .unsent⟩)
    ∧ QueueFits s.scheduled [] s.withoutHead.queue := by
  obtain ⟨-, fits⟩ := h.queued queue (by rw [kind]; exact nofun)
  rw [queue] at fits
  have due : ∃ others, s.dueClaims = f :: others := ⟨_, by rw [← fits.claims, List.filter_cons_of_pos (by simp [kind])]⟩
  obtain ⟨others, due⟩ := due
  obtain ⟨claim, unsent⟩ := State.unsent_of_due due
  have rest := fits.tail
  rw [if_pos kind, State.dueClaims_unsent unsent] at rest
  refine ⟨⟨claim, unsent⟩, ?_⟩
  rw [State.withoutHead_queue, queue]
  exact rest

theorem State.Fitting.controlClean : (s.controlClean f).Fitting := by
  have line : ∀ o : OpenSender, State.lineMatchesQueue { s with sender := o } = true := fun o =>
    State.LineFree.matches (State.LineFree.of_none silent)
  simp only [State.controlClean, State.dropHead_eq]
  split
  · rename_i kind
    obtain ⟨⟨claim, unsent⟩, fits⟩ := h.claimAtHead queue kind
    rw [State.announce_eq (s := { s with sender := s.withoutHead }) unsent]
    exact (h.setPhase unsent fits (line _)).congr
      (State.announced_outline (s := { s with sender := s.withoutHead }) f.slots _)
  · rename_i kind
    obtain ⟨engaged, fits⟩ := h.queued queue (by rw [kind]; exact nofun)
    rw [queue] at fits
    have rest := fits.tail
    rw [if_neg (by rw [kind]; exact nofun)] at rest
    refine h.setQueue engaged ?_ (line _)
    rw [State.withoutHead_queue, queue]
    exact rest
  · rw [State.moveOffline_eq]
    exact State.offLink_fitting _ _

theorem State.Fitting.controlFailed : (s.controlFailed f).Fitting := by
  have line : ∀ o : OpenSender, State.lineMatchesQueue { s with sender := o } = true := fun o =>
    State.LineFree.matches (State.LineFree.of_none silent)
  cases attempt : s.sender.attempt with
  | none => simp only [State.controlFailed, attempt]; exact h
  | some a =>
    by_cases more : a.attempts < 5
    · rw [State.controlFailed_retries attempt more]
      exact h.congr rfl
    · rw [State.controlFailed_abandons attempt (by omega), State.post_eq]
      dsimp only
      split
      · rename_i kind
        obtain ⟨⟨claim, unsent⟩, fits⟩ := h.claimAtHead queue kind
        have h' : State.Fitting { s with port := s.port.posted s.timer.cycle (.controlAbandoned f.kind) } := h.congr rfl
        cases claim with
        | reservation lane =>
          rw [State.claimAbandoned_eq (s := { s with
            sender := s.withoutHead, port := s.port.posted s.timer.cycle (.controlAbandoned f.kind) }) unsent]
          dsimp only
          rw [State.post_eq]
          exact (h.reservationEnds unsent fits (line _)).congr rfl
        | home =>
          rw [State.claimAbandoned_eq (s := { s with
            sender := s.withoutHead, port := s.port.posted s.timer.cycle (.controlAbandoned f.kind) }) unsent]
          exact (h'.homeClaimEnds unsent fits silent).homePick
      · rename_i kind
        obtain ⟨engaged, fits⟩ := h.queued queue (by rw [kind]; exact nofun)
        rw [queue] at fits
        have rest := fits.tail
        rw [if_neg (by rw [kind]; exact nofun)] at rest
        have left : QueueFits s.scheduled s.dueClaims s.withoutHead.queue := by
          rw [State.withoutHead_queue, queue]
          exact rest
        exact (h.setQueue engaged left (line _)).congr rfl
      · exact State.offLink_fitting _ _

end

end Sys2Proof.Machine

/-!
PROOFS. What own frames, the host's slot commands and the moves off the slots keep of own entries, claim in flight and
control queue.
-/

namespace Sys2Proof.Machine

/-! ### The end of an own frame -/

section
variable {s : State} (h : s.Fitting) (silent : s.line.own = none)
include h silent

theorem State.Fitting.dataResult (n : Nat) (r : Readback) : (s.dataResult n r).Fitting := by
  unfold State.dataResult
  split
  · rename_i b f round entry
    have own : (s.entry n).isOwn = true := by rw [entry]; rfl
    have settled : (s.entry n).isClaiming = false := by rw [entry]; rfl
    cases r with
    | clean => exact h.congr (State.setEntry_outline (by rw [entry]; rfl))
    | failed =>
      dsimp only
      split
      · exact h.congr (State.setEntry_outline (by rw [entry]; rfl))
      · cases f with
        | true => exact ((h.unmoored own settled (e := .barred 16) rfl silent (by rw [entry]; rfl)).postAll _).homeLost
        | false =>
          refine (h.heldLost own settled (e := .barred 16) rfl silent (by rw [entry]; rfl)).congr ?_
          simp only [Bool.false_eq_true, if_false]
          rw [State.postAll_eq]
          rfl
  · exact h

theorem State.Fitting.enterFault : s.enterFault.Fitting := by
  rw [State.enterFault_eq, State.postAll_eq]
  exact (State.fitting_idle rfl).2 ⟨(List.length_map _).trans h.sized, State.unowned_map Entry.disowned, rfl, rfl,
    State.LineFree.of_none silent⟩

end

/-- A control frame whose result is reported stands at the head of the queue (R15, R90). -/
theorem State.Fitting.head {s : State} (h : s.Fitting) {f : CtlFrame} {bytes : List Byte} {readback : Readback}
    (own : s.line.own = some ⟨.control f false, bytes, readback, false⟩) : ∃ rest, s.sender.queue = f :: rest := by
  obtain ⟨-, -, -, -, line⟩ := h.queue
  simp only [State.lineMatchesQueue, own, beq_iff_eq] at line
  exact List.head?_eq_some_iff.1 line

theorem State.Fitting.frameEnd {s : State} (h : s.Fitting) (differed : Bool) : (s.frameEnd differed).Fitting := by
  cases own : s.line.own with
  | none => simp only [State.frameEnd, own]; exact h
  | some f =>
    obtain ⟨source, bytes, readback, discarded⟩ := f
    cases discarded with
    | true =>
      rw [State.frameEnd_discarded own]
      exact h.setLine rfl
    | false =>
      have reported : ∀ (line : LineUnit) r, line.own = none → (State.reportResult { s with line := line } source r).Fitting :=
        fun line r silent => by
          have ended := h.setLine silent
          cases source with
          | data n => exact ended.dataResult silent n r
          | control f replaced =>
            cases replaced with
            | true => exact ended
            | false =>
              obtain ⟨rest, queue⟩ := h.head own
              cases r with
              | clean => exact ended.controlClean silent queue
              | failed => exact ended.controlFailed silent queue
      by_cases failed : differed = true ∨ readback = .failed
      · by_cases below : s.line.faultCount < 7
        · rw [State.frameEnd_failed own failed below]
          exact reported _ _ rfl
        · have faults : s.frameEnd differed = State.enterFault { s with line.own := none } := by
            simp only [State.frameEnd, own, readback_failed failed, if_neg below]
            rfl
          rw [faults]
          exact (h.setLine (line := { s.line with own := none }) rfl).enterFault rfl
      · rw [State.frameEnd_clean own failed]
        exact reported _ _ rfl

/-- A frame on the line whose result will be reported stays the head of the queue. -/
theorem State.lineMatches_head {s t : State} (own : t.line.own = s.line.own) (life : t.station.life = s.station.life)
    (fits : s.lineMatchesQueue = true)
    (head : s.headOnLine = true → ∀ f, s.sender.queue.head? = some f → t.sender.queue.head? = some f) :
    t.lineMatchesQueue = true := by
  unfold State.lineMatchesQueue at fits ⊢
  unfold State.headOnLine at head
  rw [own, life]
  cases line : s.line.own with
  | none => rfl
  | some g =>
    obtain ⟨source, bytes, readback, discarded⟩ := g
    rw [line] at fits head
    cases discarded with
    | true =>
      cases source with
      | data n => rfl
      | control f replaced => cases replaced <;> rfl
    | false =>
      cases source with
      | data n => rfl
      | control f replaced =>
        cases replaced with
        | true => exact fits
        | false => exact beq_iff_eq.2 (head rfl f (beq_iff_eq.1 fits))

/-! ### Own frames begun -/

section
variable {s : State} (h : s.Fitting)
include h

/-- A DATA frame goes onto the line. -/
theorem State.Fitting.beginData (body : FrameBody) (n : Nat) : (s.beginFrame (.data n) body).Fitting := by
  obtain ⟨formed, claims, stays, idle, -⟩ := h.queue
  refine ⟨h.sized, h.home, formed, claims, stays, idle, State.LineFree.matches fun f mem => .inr ⟨n, ?_⟩⟩
  obtain rfl := Option.some.inj mem
  rfl

theorem State.Fitting.sendData (packet : Option Packet) : (s.sendData packet).Fitting :=
  State.Fitting.beginData (h.congr (t := { s with delivery.owed := s.delivery.owed.drop 3 }) rfl) _ _

theorem State.Fitting.serveLane (l : Nat) : (s.serveLane l).Fitting := by
  simp only [State.serveLane]
  split
  · split
    · exact State.Fitting.sendData (h.congr (t := s.setLane l _) rfl) _
    · exact h
  · exact h

theorem State.Fitting.serveShared : s.serveShared.Fitting := by
  unfold State.serveShared
  split
  · rename_i l _
    exact State.Fitting.serveLane (h.congr (t := { s with tx.lastShared := l }) rfl) l
  · exact h.sendData none

theorem State.Fitting.offerData : s.offerData.Fitting := by
  unfold State.offerData
  split
  · split
    · unfold State.serveSlot
      split
      · exact h.sendData none
      · split
        · split
          · exact h.serveLane _
          · exact h.serveShared
        · exact h.serveShared
    · exact h
  · exact h

/-- The head of the queue goes onto the line, or counts down. -/
theorem State.Fitting.offerControl : s.offerControl.Fitting := by
  unfold State.offerControl
  split
  · rename_i f rest a sends queue attempt
    split_ifs
    · exact h
    · obtain ⟨formed, claims, stays, idle, -⟩ := h.queue
      refine ⟨h.sized, h.home, formed, claims, stays, idle, ?_⟩
      simp only [State.lineMatchesQueue, State.beginFrame, queue, List.head?_cons, beq_self_eq_true]
    · exact h.congr rfl
  · exact h

/-! ### Slot commands -/

/-- The n lowest FREE slots claimed (R62). -/
theorem State.Fitting.claimSlots (joined : s.station.life = .joined) (unclaimed : s.sched.claim = none)
    {n : Nat} (some : 1 ≤ n) (room : s.ownSlots + n ≤ 8) (free : n ≤ (s.slotsWhere (· == .free)).length) (lane : Nat) :
    (s.claimSlots lane n).Fitting := by
  obtain ⟨sized, anchored, reserving, queue, line⟩ := (State.fitting_joined joined).1 h
  obtain ⟨-, idle⟩ | ⟨_, _, other, -⟩ := reserving
  swap
  · rw [unclaimed] at other; cases other
  rw [State.claimSlots_eq]
  set chosen := (s.slotsWhere (· == .free)).take n with hc
  set u : State := { s with
    sched := ⟨s.sched.slots.mapIdx fun k e => if k ∈ chosen then .ownClaiming (.lane lane) false none else e,
      Option.some ⟨.reservation lane, .unsent⟩⟩
    sender := s.withFrame ⟨.claim, chosen⟩ } with hu
  have length : u.sched.slots.length = s.sched.slots.length := by simp [hu]
  have count : chosen.length = n := by simp [hc]; exact free
  have ascending : chosen.Pairwise (· < ·) := (s.slotsWhere_sorted _).sublist (List.take_sublist ..)
  have wasFree : ∀ k ∈ chosen, k < s.sched.slots.length ∧ s.entry k = .free := fun k mem => by
    have listed := (s.mem_slotsWhere _ k).1 (List.mem_of_mem_take mem)
    exact ⟨listed.1, by simpa using listed.2⟩
  have entry : ∀ k, u.entry k = if k ∈ chosen then .ownClaiming (.lane lane) false none else s.entry k := fun k => by
    by_cases used : k < s.sched.slots.length
    · simp [hu, State.entry, used]
    · have outside : k ∉ chosen := fun mem => used (wasFree k mem).1
      simp [hu, State.entry, used, outside]
  have claiming : u.slotsWhere Entry.isClaiming = chosen := by
    refine State.slotsWhere_eq ascending fun k => ?_
    rw [length, entry]
    by_cases mem : k ∈ chosen
    · simp [mem, (wasFree k mem).1, Entry.isClaiming]
    · simp only [mem, if_false, false_iff]
      rintro ⟨-, claimed⟩
      rw [State.entry_of_countP idle rfl k] at claimed
      cases claimed
  have homes : u.sched.slots.countP Entry.isHome = s.sched.slots.countP Entry.isHome := State.countP_congr length fun k => by
    rw [entry]
    split
    · rename_i mem
      rw [(wasFree k mem).2]; rfl
    · rfl
  have homeClaims : u.sched.slots.countP Entry.isHomeClaim = s.sched.slots.countP Entry.isHomeClaim :=
    State.countP_congr length fun k => by
      rw [entry]
      split
      · rename_i mem
        rw [(wasFree k mem).2]; rfl
      · rfl
  have few : u.sched.slots.countP Entry.isOwn ≤ 8 := by
    have within : u.slotsWhere Entry.isOwn ⊆ s.slotsWhere Entry.isOwn ++ chosen := fun k mem => by
      rw [State.mem_slotsWhere, length, entry] at mem
      by_cases listed : k ∈ chosen
      · exact List.mem_append_right _ listed
      · rw [if_neg listed] at mem
        exact List.mem_append_left _ ((s.mem_slotsWhere _ k).2 mem)
    have distinct : (u.slotsWhere Entry.isOwn).Nodup := (u.slotsWhere_sorted _).imp Nat.ne_of_lt
    have shorter := (distinct.subperm within).length_le
    rw [List.length_append, State.slotsWhere_length, State.slotsWhere_length, count] at shorter
    exact Nat.le_trans shorter room
  have listed : chosen ≠ [] := fun empty => by rw [empty] at count; simp at count; omega
  have own : 8 ≥ chosen.length := by rw [count]; omega
  change u.Fitting
  refine (State.fitting_joined (s := u) joined).2 ⟨length.trans sized, ⟨few, homes.trans anchored.home, homeClaims.trans anchored.held⟩,
    .inr ⟨lane, .unsent, rfl, ?_⟩, ?_, ?_⟩
  · rw [← State.slotsWhere_length, claiming, count]
    omega
  · rw [State.dueClaims_unsent (s := u) rfl, claiming]
    change QueueFits s.scheduled _ (s.withFrame ⟨.claim, chosen⟩).queue
    rw [State.withFrame_queue]
    rw [State.dueClaims_none unclaimed] at queue
    exact queue.append (CtlFrame.wellFormed_claim listed own ascending fun k mem => sized ▸ (wasFree k mem).1) nofun
  · refine State.lineMatches_head (s := s) (t := u) rfl rfl line fun _ f head => ?_
    change (s.withFrame ⟨.claim, chosen⟩).queue.head? = Option.some f
    rw [State.withFrame_queue, List.head?_append, head]
    rfl

end

end Sys2Proof.Machine

/-!
PROOFS. What RELEASE, LEAVE and the other host commands, the counts and the frames heard keep of own entries, claim in
flight and control queue.
-/

namespace Sys2Proof.Machine

/-! ### RELEASE -/

theorem foldl_insertSlot (slots l : List Nat) :
    (l.Pairwise (· < ·) → (slots.foldl (fun l n => insertSlot n l) l).Pairwise (· < ·))
    ∧ l.length ≤ (slots.foldl (fun l n => insertSlot n l) l).length
    ∧ (slots.foldl (fun l n => insertSlot n l) l).length ≤ l.length + slots.length
    ∧ ∀ k, k ∈ slots.foldl (fun l n => insertSlot n l) l → k ∈ slots ∨ k ∈ l := by
  induction slots generalizing l with
  | nil => exact ⟨id, Nat.le_refl _, Nat.le_refl _, fun k mem => .inr mem⟩
  | cons n slots ih =>
    obtain ⟨ascending, longer, shorter, mem⟩ := ih (insertSlot n l)
    obtain ⟨grows, least⟩ := insertSlot_length n l
    simp only [List.foldl_cons, List.length_cons]
    refine ⟨fun sorted => ascending (insertSlot_sorted n l sorted), by omega, by omega, fun k listed => ?_⟩
    obtain listed | listed := mem k listed
    · exact .inl (List.mem_cons_of_mem _ listed)
    · obtain rfl | listed := (mem_insertSlot n k l).1 listed
      · exact .inl List.mem_cons_self
      · exact .inr listed

/-- A filter passes over an element that it drops before and after a change. -/
theorem filter_modify {α : Type} {p : α → Bool} {g : α → α} (l : List α) (i : Nat)
    (dropped : ∀ a, l[i]? = some a → p a = false ∧ p (g a) = false) : (l.modify i g).filter p = l.filter p := by
  induction l generalizing i with
  | nil => simp
  | cons a l ih =>
    cases i with
    | zero =>
      obtain ⟨before, behind⟩ := dropped a rfl
      simp [before, behind]
    | succ i => simp [List.filter_cons, ih i fun b at_i => dropped b (by simpa using at_i)]

theorem Entry.released_roles (lane : Nat) (e : Entry) :
    ((e.freeIf (Entry.releasable lane)).share lane).isClaiming = e.isClaiming
    ∧ ((e.freeIf (Entry.releasable lane)).share lane).isHome = e.isHome
    ∧ (((e.freeIf (Entry.releasable lane)).share lane).isOwn = true → e.isOwn = true) := by
  rw [Entry.share_freeIf]
  cases e with
  | ownHeld b f r | ownYielding b f r w =>
    by_cases bound : (b == .lane lane) = true <;> cases f <;> simp [bound, Entry.isClaiming, Entry.isHome, Entry.isOwn]
  | _ => exact ⟨rfl, rfl, id⟩

theorem State.entry_map (s : State) {f : Entry → Entry} (free : f .free = .free) (n : Nat) :
    State.entry { s with sched.slots := s.sched.slots.map f } n = f (s.entry n) :=
  getD_map_fixed f s.sched.slots n free

/-- A frame of slots to be freed. -/
theorem CtlFrame.wellFormed_release {D : Nat} {slots : List Nat} (some : 1 ≤ slots.length) (most : slots.length ≤ 8)
    (ascending : slots.Pairwise (· < ·)) (inside : ∀ n ∈ slots, n < D) : CtlFrame.WellFormed D ⟨.release, slots⟩ :=
  ⟨some, most, ascending, inside⟩

/-- A replaced control frame on the line finds no frame in the queue (R90). -/
theorem State.replaceQueue_own (s : State) : ∀ f ∈ s.replaceQueue.line.own, ∀ c, f.source ≠ .control c false := by
  intro f mem c
  rw [State.replaceQueue_eq] at mem
  obtain ⟨⟨source, bytes, readback, discarded⟩, -, rfl⟩ := Option.mem_map.1 mem
  cases source <;> exact nofun

theorem State.lineMatches_replaced {s : State} (leaving : s.station.life = .leaving)
    (replaced : ∀ f ∈ s.line.own, ∀ c, f.source ≠ .control c false) : s.lineMatchesQueue = true := by
  unfold State.lineMatchesQueue
  split
  · rename_i own
    exact absurd rfl (replaced _ own _)
  · rw [leaving]; rfl
  · rfl

section
variable {s : State} (h : s.Fitting) (joined : s.station.life = .joined)
include h joined

theorem State.Fitting.placeRelease {slots : List Nat} (some : 1 ≤ slots.length) (most : slots.length ≤ 8)
    (ascending : slots.Pairwise (· < ·)) (inside : ∀ n ∈ slots, n < s.scheduled) : (s.placeRelease slots).Fitting := by
  obtain ⟨-, -, -, queue, line⟩ := (State.fitting_joined joined).1 h
  obtain ⟨i, place, joins⟩ | ⟨room, appends⟩ | ⟨-, same⟩ := s.placeRelease_cases slots
  · obtain ⟨f, at_i, release, offLine, fits⟩ := mergePlace_spec place
    obtain ⟨inQueue, rfl⟩ := List.getElem?_eq_some_iff.1 at_i
    have kinds : ∀ g : CtlFrame, ({ g with slots := slots.foldl (fun l n => insertSlot n l) g.slots } : CtlFrame).kind = g.kind :=
      fun _ => rfl
    have stands : ∀ {P : CtlFrame → Prop},
        P { s.sender.queue[i] with slots := slots.foldl (fun l n => insertSlot n l) s.sender.queue[i].slots } →
        (∀ g ∈ s.sender.queue, P g) → ∀ g ∈ s.sender.queue.modify i fun f =>
          { f with slots := slots.foldl (fun l n => insertSlot n l) f.slots }, P g := fun merged others g mem => by
      obtain ⟨j, hj, rfl⟩ := List.mem_iff_getElem.1 mem
      have hj' : j < s.sender.queue.length := by simpa using hj
      rw [List.getElem_modify]
      split
      · rename_i here
        subst here
        exact merged
      · exact others _ (List.getElem_mem hj')
    have here := queue.formed _ (List.getElem_mem inQueue)
    rw [CtlFrame.WellFormed, if_neg (by rw [release]; exact nofun)] at here
    obtain ⟨least, -, before, within⟩ := here
    obtain ⟨sorted, longer, shorter, mem⟩ := foldl_insertSlot slots s.sender.queue[i].slots
    rw [joins]
    refine h.setQueue (.inl joined) ⟨stands ?_ queue.formed, ?_, stands ?_ queue.staying⟩ ?_
    · rw [CtlFrame.WellFormed, if_neg (by rw [kinds, release]; exact nofun)]
      dsimp only
      refine ⟨by omega, by omega, sorted before, fun k listed => ?_⟩
      exact (mem k listed).elim (inside k) (within k)
    · rw [filter_modify _ i fun g at_i => ?_]
      · exact queue.claims
      · obtain rfl := Option.some.inj ((List.getElem?_eq_getElem inQueue).symm.trans at_i)
        simp [release]
    · rw [kinds, release]
      exact nofun
    · refine State.lineMatches_head (s := s) rfl rfl line fun onLine f head => ?_
      have behind : i ≠ 0 := fun first => by rw [offLine first] at onLine; cases onLine
      rw [List.head?_eq_getElem?] at head ⊢
      simpa [List.getElem?_modify, behind] using head
  · rw [appends]
    refine h.setQueue (.inl joined) ?_ ?_
    · rw [State.withFrame_queue]
      have longer := queue.append (CtlFrame.wellFormed_release some most ascending inside) nofun
      rwa [List.filter_cons_of_neg (by simp), List.filter_nil, List.append_nil] at longer
    · refine State.lineMatches_head (s := s) rfl rfl line fun _ f head => ?_
      change (s.withFrame ⟨.release, slots⟩).queue.head? = Option.some f
      rw [State.withFrame_queue, List.head?_append, head]
      rfl
  · rwa [same]

theorem State.Fitting.releaseLane (lane : Nat) : (s.releaseLane lane).Fitting := by
  obtain ⟨sized, anchored, reserving, queue, line⟩ := (State.fitting_joined joined).1 h
  have roles := Entry.released_roles lane
  have claiming : (s.released lane).sched.slots.countP Entry.isClaiming = s.sched.slots.countP Entry.isClaiming :=
    countP_map_same _ fun e => (roles e).1
  have homes : (s.released lane).sched.slots.countP Entry.isHome = s.sched.slots.countP Entry.isHome :=
    countP_map_same _ fun e => (roles e).2.1
  have homeClaims : (s.released lane).sched.slots.countP Entry.isHomeClaim = s.sched.slots.countP Entry.isHomeClaim :=
    countP_map_same _ fun e => by simp only [Entry.isHomeClaim, (roles e).1, (roles e).2.1]
  have few : (s.released lane).sched.slots.countP Entry.isOwn ≤ 8 := by
    change (s.sched.slots.map _).countP Entry.isOwn ≤ 8
    rw [List.countP_map]
    exact Nat.le_trans (countP_narrow _ fun e => (roles e).2.2) anchored.few
  have due : (s.released lane).dueClaims = s.dueClaims := by
    have listed : (s.released lane).slotsWhere Entry.isClaiming = s.slotsWhere Entry.isClaiming :=
      State.slotsWhere_congr (List.length_map _) fun n => by
        rw [State.released, State.entry_map s (by rfl) n, (roles _).1]
    simp only [State.dueClaims, listed]
    rfl
  have released : (s.released lane).Fitting := by
    refine (State.fitting_joined (s := s.released lane) joined).2 ⟨(List.length_map _).trans sized,
      ⟨few, homes.trans anchored.home, homeClaims.trans anchored.held⟩, ?_, by rw [due]; exact queue, line⟩
    unfold State.Reserving
    rw [claiming]
    exact reserving
  rw [State.releaseLane_eq]
  split
  · exact released
  · rename_i some
    refine released.placeRelease joined (List.length_pos_iff.2 some) ?_ (s.slotsWhere_sorted _) fun n mem => ?_
    · rw [State.slotsWhere_length]
      refine Nat.le_trans (countP_narrow _ fun e releasable => ?_) anchored.few
      rw [Entry.releasable_eq] at releasable
      cases e <;> simp_all [Entry.isOwn]
    · exact sized ▸ ((s.mem_slotsWhere _ n).1 mem).1

/-- LEAVE gives up a reservation and replaces the queue (R35, R80, R90). -/
theorem State.Fitting.beginLeaving : s.beginLeaving.Fitting := by
  obtain ⟨sized, anchored, reserving, -, -⟩ := (State.fitting_joined joined).1 h
  have parts : s.beginLeaving = State.endClaim (State.replaceQueue { s with station.life := .leaving, station.leaveCount := 8 }) := rfl
  have replaced := State.replaceQueue_own { s with station.life := .leaving, station.leaveCount := 8 }
  rw [parts]
  set v := State.replaceQueue { s with station.life := .leaving, station.leaveCount := 8 }
  have line : ∀ t : State, t.line.own = v.line.own → t.station.life = .leaving → t.lineMatchesQueue = true :=
    fun t own life => State.lineMatches_replaced life (own ▸ replaced)
  obtain ⟨unclaimed, idle⟩ | ⟨lane, phase, claim, -⟩ := reserving
  · have same : v.endClaim = v := by
      rw [State.endClaim_eq]
      simp only [show v.sched.claim = none from unclaimed]
    rw [same]
    exact (State.fitting_leaving (s := v) rfl).2 ⟨sized, ⟨anchored.few, anchored.home, anchored.held⟩, unclaimed, idle, rfl,
      line v rfl rfl⟩
  · have ended : v.endClaim = State.post { v with sched := v.unclaimed } (.reserveDone lane 0) := by
      rw [State.endClaim_eq]
      simp only [show v.sched.claim = some ⟨.reservation lane, phase⟩ from claim]
    obtain ⟨kept, idle⟩ := anchored.unclaimed (u := { v with sched := v.unclaimed }) rfl
    rw [ended, State.post_eq]
    exact (State.fitting_leaving rfl).2 ⟨(List.length_map _).trans sized, ⟨kept.few, kept.home, kept.held⟩, rfl, idle, rfl,
      line _ rfl rfl⟩

end

/-! ### The other host commands -/

/-- A station off the slots stays so with whatever else it becomes. -/
theorem State.Fitting.idle {s : State} (h : s.Fitting) (idle : s.sendsControl = false) {t : State} (idle' : t.sendsControl = false)
    (sized : t.sched.slots.length = t.scheduled) (unowned : ∀ e ∈ t.sched.slots, e = .free) (claim : t.sched.claim = none)
    (queue : t.sender.queue = s.sender.queue) (own : t.line.own = s.line.own) : t.Fitting := by
  obtain ⟨-, -, -, empty, free⟩ := (State.fitting_idle idle).1 h
  refine (State.fitting_idle idle').2 ⟨sized, List.countP_eq_zero.2 fun e mem => ?_, claim, queue.trans empty, by
    unfold State.LineFree
    rwa [own]⟩
  rw [unowned e mem]
  exact Bool.false_ne_true

theorem State.resetAct_fitting (s : State) : s.resetAct.Fitting := by
  rw [State.resetAct_eq]
  refine (State.fitting_idle ?_).2 ⟨List.length_replicate .., List.countP_eq_zero.2 fun e mem => ?_, rfl, rfl, .of_none rfl⟩
  · dsimp only [State.sendsControl, State.serves]
    split <;> rfl
  · rw [List.eq_of_mem_replicate mem]
    exact Bool.false_ne_true

section
variable {s : State} (h : s.Fitting)
include h

theorem State.Fitting.configure (a : ConfigureArgs) : (s.configure a).1.Fitting := by
  unfold State.configure
  split_ifs with off accepted
  · have idle : s.sendsControl = false := by
      obtain life | life := Bool.or_eq_true_iff.1 off <;> simp [State.sendsControl, State.serves, beq_iff_eq.1 life]
    refine h.idle idle (t := s.install a) rfl ?_ (fun e mem => List.eq_of_mem_replicate mem) rfl rfl rfl
    exact List.length_replicate ..
  · exact h
  · exact h

theorem State.Fitting.join : s.join.1.Fitting := by
  unfold State.join
  split
  · rename_i offline
    have life : s.station.life = .offline := beq_iff_eq.1 offline
    obtain ⟨sized, unowned, claim, empty, free⟩ := (State.fitting_idle (by simp [State.sendsControl, State.serves, life])).1 h
    exact (State.fitting_idle rfl).2 ⟨sized, unowned, claim, empty, free⟩
  · exact h

theorem State.Fitting.leave : s.leave.1.Fitting := by
  unfold State.leave
  split
  · rw [State.moveOffline_eq]; exact s.offLink_fitting _
  · rw [State.moveOffline_eq]; exact s.offLink_fitting _
  · rw [State.moveOffline_eq]; exact s.offLink_fitting _
  · exact h.beginLeaving ‹_›
  all_goals exact h

theorem State.Fitting.reserve (lane n : Byte) : (s.reserve lane n).1.Fitting := by
  unfold State.reserve
  split_ifs with life number count busy limit slots
  any_goals exact h
  refine h.claimSlots (by simpa using life) ?_ ?_ ?_ ?_ _
  · by_contra some
    have claimed : s.sched.claim.isNone = false := by simpa [Option.isSome_iff_ne_none] using some
    simp [claimed] at busy
  · by_contra none
    simp [none] at count
  · omega
  · omega

theorem State.Fitting.release (lane : Byte) : (s.release lane).1.Fitting := by
  unfold State.release
  split_ifs with life number claiming
  any_goals exact h
  exact h.releaseLane (by simpa using life) _

theorem State.Fitting.onLane (taken : Bool) (lane : Byte) (f : TxLane → Option TxLane × Status) :
    (s.onLane taken lane f).1.Fitting := by
  unfold State.onLane
  split_ifs
  any_goals exact h
  split
  · exact h.congr (t := s.setLane lane.toNat _) rfl
  · exact h

theorem State.Fitting.reply (c : Instr) : (s.reply c).1.Fitting := by
  cases c with
  | configure a => exact h.configure a
  | join => exact h.join
  | leave => exact h.leave
  | reserve lane n => exact h.reserve lane n
  | release lane => exact h.release lane
  | append | commit | flush | resume => exact h.onLane _ _ _
  | fetch lane => change (s.fetch lane).1.Fitting; unfold State.fetch; split_ifs <;> (try split) <;> exact h
  | readEvent => change s.readEvent.1.Fitting; unfold State.readEvent; split <;> exact h
  | readSlot slot => change (s.readSlot slot).1.Fitting; unfold State.readSlot; split_ifs <;> exact h
  | readPeer address => change (s.readPeer address).1.Fitting; unfold State.readPeer; split_ifs <;> exact h
  | _ => exact h

theorem State.Fitting.endTransaction : s.endTransaction.Fitting := by
  unfold State.endTransaction
  split
  · exact s.resetAct_fitting
  · exact h.congr rfl

theorem State.Fitting.take (c : Instr) : (s.take c (State.reply c)).Fitting := by
  unfold State.take
  split
  · exact h
  · exact (h.endTransaction.reply c).congr rfl

theorem State.Fitting.fetchRemoval : s.fetchRemoval.Fitting := by
  unfold State.fetchRemoval
  split
  · exact h.congr rfl
  · exact h

theorem State.Fitting.eventRemoval : s.eventRemoval.Fitting := by
  unfold State.eventRemoval
  split
  · refine h.congr ?_
    simp [State.outline]
  · exact h

end

end Sys2Proof.Machine

/-!
PROOFS. Own entries, claim in flight and control queue over every command: the counts, the frames heard, and the
statements themselves.
-/

namespace Sys2Proof.Machine

/-! ### What leaves the outline alone -/

@[simp] theorem State.post_outline (s : State) (e : Event) : (s.post e).outline = s.outline := by simp [State.outline]
@[simp] theorem State.postAll_outline (s : State) (es : List Event) : (s.postAll es).outline = s.outline := by
  simp [State.outline]
@[simp] theorem State.setPeer_outline (s : State) (a : Nat) (r : Peer) : (s.setPeer a r).outline = s.outline := by
  simp [State.outline]
@[simp] theorem State.setLane_outline (s : State) (l : Nat) (t : TxLane) : (s.setLane l t).outline = s.outline := rfl
@[simp] theorem State.haltLane_outline (s : State) (l : Nat) (r : HaltReason) : (s.haltLane l r).outline = s.outline := by
  simp [State.outline]

theorem State.freePeers_outline (s : State) {p : Entry → Bool} (foreign : ∀ e, p e = true → e.isOwn = false) :
    (s.freeEntries p).outline = s.outline := by
  refine State.map_outline fun e => ?_
  obtain ⟨freed, eq⟩ | ⟨-, eq⟩ := Entry.freeIf_cases p e <;> rw [eq]
  obtain ⟨claiming, home, -⟩ := Entry.foreign (foreign e freed)
  simp only [Entry.role, foreign e freed, claiming, home]
  rfl

theorem Entry.peer_foreign {e : Entry} (peer : e.peer?.isSome = true) : e.isOwn = false := by
  cases e <;> simp_all [Entry.peer?, Entry.isOwn]

@[simp] theorem State.fallBack_outline (s : State) : s.fallBack.outline = s.outline := by
  rw [State.fallBack_eq]
  split
  · rfl
  · rw [State.post_outline]; rfl

@[simp] theorem State.haltLanesTo_outline (s : State) (p : Nat) : (s.haltLanesTo p).outline = s.outline := by
  rw [State.haltLanesTo_frame]; rfl

@[simp] theorem State.withoutPeer_outline (s : State) (p : Nat) : (s.withoutPeer p).outline = s.outline := by
  refine Eq.trans ?_ (State.map_outline (s := s) (f := fun e => if e.peer? = some p then .free else e) fun e => ?_)
  · rfl
  · split
    · rename_i peer
      have foreign := Entry.peer_foreign (e := e) (by rw [peer]; rfl)
      obtain ⟨claiming, home, -⟩ := Entry.foreign foreign
      simp only [Entry.role, foreign, claiming, home]
      rfl
    · rfl

@[simp] theorem State.absenceNotice_outline (s : State) (p : Nat) : (s.absenceNotice p).outline = s.outline := by
  rw [State.absenceNotice_eq]
  split
  · obtain ⟨r, h⟩ | ⟨r, h⟩ := State.eitherOrder_cases Config.fallbackFirst State.fallBack (fun s => s.haltLanesTo p) (s.withoutPeer p)
    · exact (congrArg State.outline h).trans ((State.haltLanesTo_outline _ _).trans
        ((State.fallBack_outline _).trans (s.withoutPeer_outline p)))
    · exact (congrArg State.outline h).trans ((State.fallBack_outline _).trans
        ((State.haltLanesTo_outline _ _).trans (s.withoutPeer_outline p)))
  · rw [State.haltLanesTo_outline, State.withoutPeer_outline]

@[simp] theorem State.peerStep_outline (s : State) (p : Nat) : (s.peerStep p).outline = s.outline := by
  simp only [State.peerStep]; split_ifs <;> simp
@[simp] theorem State.peerHeard_outline (s : State) (x : Nat) : (s.peerHeard x).outline = s.outline := by
  simp only [State.peerHeard]; split <;> simp
@[simp] theorem State.peerLeft_outline (s : State) (x : Nat) : (s.peerLeft x).outline = s.outline := by
  simp only [State.peerLeft]; split <;> simp
@[simp] theorem State.peerMismatched_outline (s : State) (x : Nat) : (s.peerMismatched x).outline = s.outline := by
  simp only [State.peerMismatched]; split <;> simp
@[simp] theorem State.report_outline (s : State) (span : FrameSpan) (counts : Bool) (x : Option Nat) :
    (s.report span counts x).outline = s.outline := by
  rw [State.report_eq]
  unfold State.heard State.outline
  split
  · rfl
  · split <;> rfl

@[simp] theorem State.postReference_outline (s : State) (r : Nat) (resync : Bool) :
    (s.postReference r resync).outline = s.outline := by
  unfold State.postReference; split <;> simp

theorem State.resync_outline (s : State) (hd : Header) : (s.resync hd).outline = s.outline := by
  have freed : ((s.takeTiming hd).freeEntries fun e => e.peer?.isSome).outline = s.outline :=
    State.freePeers_outline (s.takeTiming hd) fun e => Entry.peer_foreign
  simp only [State.resync]
  split <;> exact freed

theorem State.decideTiming_outline (s : State) (hd : Header) (arrives : Bool) :
    (s.decideTiming hd arrives).1.outline = s.outline := by
  simp only [State.decideTiming]
  split_ifs <;> simp [State.resync_outline] <;> rfl

theorem State.applyAck_outline (s : State) (p : Nat) (a : AckEntry) : (s.applyAck p a).outline = s.outline := by
  have free : ∀ (t : State) l e, (t.ackFree l e).outline = t.outline := fun t l e => by
    simp only [State.ackFree]; split <;> simp
  have busy : ∀ (t : State) l e, (t.ackBusy l e).outline = t.outline := fun t l e => by
    simp only [State.ackBusy]; split_ifs <;> simp
  unfold State.applyAck
  split
  · split
    · dsimp only; split <;> simp [free, busy]
    · rfl
  · rfl

theorem State.judge_outline (s : State) (p : Nat) (k : Packet) : (s.judge p k).outline = s.outline := by
  have inOrder : ∀ (t : State) e, (t.judgeInOrder p k e).outline = t.outline := fun t e => by
    unfold State.judgeInOrder; split_ifs <;> rfl
  unfold State.judge
  split_ifs
  · unfold State.judgeUnicast
    split
    · split
      · rfl
      · exact inOrder _ _
    · exact inOrder _ _
    · exact inOrder _ _
    · rfl
  · unfold State.judgeBroadcast
    split
    · rfl
    · exact s.post_outline _
  · rfl
  · rfl

theorem State.takeDelivery_outline (s : State) (f : Frame) : (s.takeDelivery f).outline = s.outline := by
  have acks : ∀ (l : List AckEntry) (t : State),
      (l.foldl (fun s a => s.applyAck f.header.sender a) t).outline = t.outline := fun l => by
    induction l with
    | nil => exact fun _ => rfl
    | cons a l ih => exact fun t => (ih _).trans (t.applyAck_outline _ a)
  unfold State.takeDelivery
  split
  · dsimp only
    split
    · exact (State.judge_outline _ _ _).trans (acks _ s)
    · exact acks _ s
  · rfl

/-! ### The counts -/

section
variable {e : Entry}

theorem Entry.silentStep_role (e : Entry) : e.silentStep.role = e.role := by
  cases e with
  | peerHeld x k => simp only [Entry.silentStep]; split <;> rfl
  | _ => rfl

theorem Entry.windowStep_role (e : Entry) : e.windowStep.role = e.role := by
  cases e with
  | ownYielding b f r w => simp only [Entry.windowStep]; split <;> rfl
  | _ => rfl

theorem Entry.expiryStep_role (e : Entry) : e.expiryStep.role = e.role := by
  cases e with
  | peerPending x k => simp only [Entry.expiryStep]; split <;> rfl
  | _ => rfl

theorem Entry.barStep_role (e : Entry) : e.barStep.role = e.role := by
  cases e with
  | barred k => simp only [Entry.barStep]; split <;> rfl
  | _ => rfl

theorem Entry.settleDown_role (e : Entry) : e.settleDown.role = e.role := by
  unfold Entry.settleDown; split <;> rfl

theorem Entry.cycleStep_role (e : Entry) : e.cycleStep.role = e.role := by
  cases e with
  | peerPending x k => simp only [Entry.cycleStep]; split; exacts [Entry.expiryStep_role _, rfl]
  | barred k => simp only [Entry.cycleStep]; split; exacts [Entry.barStep_role _, rfl]
  | _ => rfl

end

section
variable {s : State} (h : s.Fitting)
include h

theorem State.Fitting.stepEntry (n : Nat) {f : Entry → Entry} (same : ∀ e, (f e).role = e.role) : (s.stepEntry n f).Fitting :=
  h.congr (State.setEntry_outline (same _))

/-- A station off the slots may pick (R30, R31). -/
theorem State.Fitting.vacant (idle : s.sendsControl = false) : s.Vacant := by
  obtain ⟨sized, unowned, claim, empty, free⟩ := (State.fitting_idle idle).1 h
  exact ⟨sized, unowned, claim, by rw [empty]; exact QueueFits.nil, free, fun _ => empty⟩

/-- The first cycle start behind an announcement clears its mark (R66). -/
theorem State.Fitting.unmark {kind : ClaimKind} (claim : s.sched.claim = some ⟨kind, .announced true⟩) :
    State.Fitting { s with sched.claim := some ⟨kind, .announced false⟩ } := by
  obtain ⟨-, -, -, -, line⟩ := h.queue
  refine h.setPhase claim (o := s.sender) ?_ line
  obtain ⟨life, -⟩ | ⟨life, -⟩ := h.claims claim
  · obtain ⟨-, -, -, queue, -⟩ := (State.fitting_joined life).1 h
    rwa [State.dueClaims_announced claim] at queue
  · obtain ⟨-, -, -, queue, -⟩ := (State.fitting_joining life).1 h
    rwa [State.dueClaims_announced claim] at queue

theorem State.Fitting.settleStep : s.settleStep.Fitting := by
  unfold State.settleStep
  split
  · exact h.unmark ‹_›
  · split
    · exact h.winClaim
    · exact h.congr (State.map_outline Entry.settleDown_role)
  · exact h

theorem State.Fitting.listenStep : s.listenStep.Fitting := by
  unfold State.listenStep
  split_ifs with listening
  · exact h.congr rfl
  · exact h.congr rfl
  · have idle : s.sendsControl = false := by simp [State.sendsControl, State.serves, beq_iff_eq.1 listening]
    exact (State.Fitting.vacant (s := { s with station.listenCount := 0 }) (h.congr rfl) idle).homePick
  · exact h

theorem State.Fitting.waitingStep : s.waitingStep.Fitting := by
  unfold State.waitingStep
  split
  · rename_i waiting
    exact (h.vacant (by simp [State.sendsControl, State.serves, beq_iff_eq.1 waiting])).homePick
  · exact h

theorem State.Fitting.leaveStep : s.leaveStep.Fitting := by
  unfold State.leaveStep
  split_ifs
  · exact h.congr rfl
  · rw [State.moveOffline_eq]
    exact s.offLink_fitting _
  · exact h

theorem State.Fitting.deadlineStep (l : Nat) (q : Seq) : (s.deadlineStep l q).Fitting := by
  refine h.congr ?_
  simp only [State.deadlineStep]
  split
  · rfl
  · split <;> simp

theorem State.Fitting.dueStep (d : Due) : (s.dueStep d).Fitting := by
  cases d with
  | lapse n => exact h.stepEntry n Entry.silentStep_role
  | yieldEnd n => exact h.stepEntry n Entry.windowStep_role
  | pendingExpiry n => exact h.stepEntry n Entry.expiryStep_role
  | barExpire n => exact h.stepEntry n Entry.barStep_role
  | settle => exact h.settleStep
  | listenEnd => exact h.listenStep
  | waitingPick => exact h.waitingStep
  | leaveTimeout => exact h.leaveStep
  | absence p => exact h.congr (s.peerStep_outline p)
  | deadline l q => exact h.deadlineStep l q
  | relearnHold | busyHold => exact h.congr rfl

theorem State.Fitting.takeDue (d : Due) : (s.takeDue d).Fitting := by
  unfold State.takeDue
  split
  · exact State.Fitting.dueStep (s := { s with timer.due := s.timer.due.erase d }) (h.congr rfl) d
  · exact h

theorem State.Fitting.ifActive {f : State → State} (kept : (f s).Fitting) : (s.ifActive f).Fitting := by
  unfold State.ifActive
  split
  · exact kept
  · exact h

end

theorem State.Fitting.foldl_takeDue {s : State} (h : s.Fitting) (due : List Due) : (due.foldl State.takeDue s).Fitting := by
  induction due generalizing s with
  | nil => exact h
  | cons d due ih => exact ih (h.takeDue d)

theorem State.countSlot_outline (s : State) (n : Nat) : (s.countSlot n).outline = s.outline := by
  unfold State.countSlot
  split
  · split_ifs
    · rfl
    · exact State.setEntry_outline (Entry.silentStep_role _)
    · rfl
  · split_ifs
    · rfl
    · exact State.setEntry_outline (Entry.windowStep_role _)
    · rfl
  · rfl

section
variable {s : State} (h : s.Fitting)
include h

theorem State.Fitting.endSlot : s.endSlot.Fitting :=
  (h.congr (s.countSlot_outline s.timer.position)).congr rfl

theorem State.Fitting.settled : State.Fitting { s with sched := s.sched.settled } := by
  unfold Schedule.settled
  split
  · exact h.unmark ‹_›
  · split
    · exact h
    · exact h.congr (State.map_outline Entry.settleDown_role)
  · exact h

theorem State.Fitting.cycleCounts : s.cycleCounts.Fitting := by
  have stepped : State.Fitting { s with sched.slots := s.sched.slots.map Entry.cycleStep } :=
    h.congr (State.map_outline Entry.cycleStep_role)
  rw [State.cycleCounts_eq]
  exact stepped.settled.congr rfl

theorem State.Fitting.cycleStart : s.cycleStart.Fitting := by
  unfold State.cycleStart
  split
  · have caught := h.foldl_takeDue s.timer.due
    refine State.Fitting.ifActive (s := s.catchUp) caught ?_
    have begun : s.catchUp.beginCycle.Fitting := caught.congr rfl
    exact begun.cycleCounts.congr rfl
  · exact h

end

/-! ### Frames heard -/

/-- No own frame is on the line, and none stays so. -/
theorem State.homePick_line (s : State) : s.homePick.line = s.line := by
  obtain ⟨_, -, -, h⟩ | ⟨-, ⟨-, h⟩ | ⟨-, h⟩⟩ := s.homePick_cases <;> rw [h]
  rw [State.post_eq]

theorem State.claimLost_line (s : State) : s.claimLost.line = s.line := by
  rw [State.claimLost_eq]
  split
  · rfl
  · rw [State.post_eq]
  · rw [State.homePick_line]

section
variable {s : State} (silent : s.line.own = none)
include silent

theorem State.homeLost_silent : s.homeLost.line.own = none := by
  obtain ⟨n, -, h⟩ | ⟨-, ⟨-, h⟩ | ⟨-, t, rfl, h⟩ | ⟨-, h⟩⟩ := s.homeLost_cases <;> rw [h]
  · exact silent
  · change s.line.own.map _ = none
    rw [silent]
    rfl
  · rw [State.homePick_line, State.endClaim_line]
    split <;> simp [silent]
  · exact silent

theorem State.lossNotice_silent (n : Nat) (e : Entry) : (s.lossNotice n e).line.own = none := by
  obtain ⟨b, f, k, -, t, stripped, h⟩ | ⟨b, f, r, w, -, h⟩ | ⟨-, h⟩ := s.lossNotice_cases n e <;> rw [h]
  · have same : t.line.own = none := by obtain rfl | rfl := stripped <;> simp [silent]
    split
    · exact same
    · rw [State.claimLost_line]; exact same
  · split
    · exact State.homeLost_silent (by simp [silent])
    · simp [silent]
  · exact silent

variable (h : s.Fitting)
include h

theorem State.Fitting.learnData (x n : Nat) : (s.learnData x n).Fitting := by
  unfold State.learnData
  split
  · rename_i taken
    exact h.lost silent n (e := .peerHeld x 0) rfl (by simpa using (Bool.and_eq_true_iff.1 taken).2)
  · exact h

theorem State.Fitting.learnClaim (x n : Nat) : (s.learnClaim x n).Fitting ∧ (s.learnClaim x n).line.own = none := by
  have taken : (s.entry n).isHeld = false →
      ((s.setEntry n (.peerPending x 6)).lossNotice n (s.entry n)).Fitting
        ∧ ((s.setEntry n (.peerPending x 6)).lossNotice n (s.entry n)).line.own = none := fun unheld =>
    ⟨h.lost silent n rfl unheld, State.lossNotice_silent (s := s.setEntry n (.peerPending x 6)) silent n _⟩
  simp only [State.learnClaim]
  split
  · split
    · rename_i entry
      exact taken (by rw [entry]; rfl)
    · rename_i entry
      split
      · exact taken (by rw [entry]; rfl)
      · exact ⟨h, silent⟩
    · rename_i entry
      split
      · exact taken (by rw [entry]; rfl)
      · exact ⟨h, silent⟩
    all_goals exact ⟨h, silent⟩
  · exact ⟨h, silent⟩

end

theorem State.Fitting.learnClaims (x : Nat) (slots : List Nat) {s : State} (h : s.Fitting) (silent : s.line.own = none) :
    (slots.foldl (fun s n => s.learnClaim x n) s).Fitting := by
  induction slots generalizing s with
  | nil => exact h
  | cons n slots ih =>
    obtain ⟨learned, still⟩ := h.learnClaim silent x n
    exact ih learned still

theorem State.learnRelease_outline (s : State) (x n : Nat) : (s.learnRelease x n).outline = s.outline := by
  unfold State.learnRelease
  split
  · rename_i owned
    have peer : (s.entry n).peer? = some x := beq_iff_eq.1 (Bool.and_eq_true_iff.1 owned).2
    have foreign := Entry.peer_foreign (e := s.entry n) (by rw [peer]; rfl)
    obtain ⟨claiming, home, -⟩ := Entry.foreign foreign
    refine State.setEntry_outline ?_
    simp only [Entry.role, foreign, claiming, home]
    rfl
  · rfl

theorem State.Fitting.learnReleases (x : Nat) (slots : List Nat) {s : State} (h : s.Fitting) :
    (slots.foldl (fun s n => s.learnRelease x n) s).Fitting := by
  induction slots generalizing s with
  | nil => exact h
  | cons n slots ih => exact ih (h.congr (s.learnRelease_outline x n))

theorem State.Fitting.learn {s : State} (h : s.Fitting) (silent : s.line.own = none) (f : Frame) : (s.learn f).Fitting := by
  obtain ⟨hd, body⟩ := f
  cases body with
  | data acks packet => exact h.learnData silent hd.sender hd.slot
  | claim slots => exact h.learnClaims hd.sender (eachOnce slots) silent
  | release slots => exact h.learnReleases hd.sender (eachOnce slots)
  | leave =>
    refine h.congr (s.freePeers_outline fun e owned => Entry.peer_foreign ?_)
    rw [beq_iff_eq.1 owned]
    rfl

theorem State.own_of_outline {s t : State} (same : t.outline = s.outline) : t.line.own = s.line.own :=
  congrArg (·.2.2.2.2.2) same

section
variable {s : State} (h : s.Fitting) (silent : s.line.own = none)
include h silent

theorem State.Fitting.acceptMatching (f : Frame) (span : FrameSpan) (arrives : Bool) :
    (s.acceptMatching f span arrives).Fitting := by
  obtain ⟨timing, data, v, -, reported, cases⟩ := s.acceptMatching_cases f span arrives
  have same : v.outline = s.outline := by rw [reported, State.report_outline, State.decideTiming_outline]
  have fits := h.congr same
  have quiet : v.line.own = none := (State.own_of_outline same).trans silent
  have heard := fits.congr (v.peerHeard_outline f.header.sender)
  have quietHeard := (State.own_of_outline (v.peerHeard_outline f.header.sender)).trans quiet
  obtain eq | ⟨-, ⟨-, eq⟩ | ⟨-, eq⟩ | ⟨-, n, eq | eq⟩⟩ := cases <;> rw [eq]
  · exact heard
  · exact (fits.congr (v.peerLeft_outline f.header.sender)).learn
      ((State.own_of_outline (v.peerLeft_outline f.header.sender)).trans quiet) f
  · exact heard.learn quietHeard f
  · exact (heard.learn quietHeard f).congr (State.takeDelivery_outline _ f)
  · have delivered := State.takeDelivery_outline (v.peerHeard f.header.sender) f
    exact ((heard.congr delivered).learn ((State.own_of_outline delivered).trans quietHeard) f).congr rfl

theorem State.Fitting.accept (f : Frame) (span : FrameSpan) : (s.accept f span).Fitting := by
  unfold State.accept
  split
  · exact h
  · split
    · exact h.acceptMatching silent f span _
    · exact h.congr ((State.peerMismatched_outline _ _).trans (s.report_outline _ _ _))

end

section
variable {s : State} (h : s.Fitting)
include h

theorem State.Fitting.takeFrame (f : Frame) (span : FrameSpan) : (s.takeFrame f span).Fitting := by
  unfold State.takeFrame
  split
  · rename_i hears
    have receives := (Bool.and_eq_true_iff.1 hears).1
    unfold State.receives at receives
    simp only [Bool.and_eq_true, Option.isNone_iff_eq_none] at receives
    exact h.accept receives.1.1.2 f span
  · exact h

theorem State.Fitting.takeUnderWay (bytes : List Byte) : (s.takeUnderWay bytes).Fitting := by
  unfold State.takeUnderWay
  split
  · exact h.takeFrame _ _
  · exact h

theorem State.Fitting.markStart : s.markStart.Fitting := h.congr rfl

theorem State.Fitting.passStart : s.passStart.Fitting := by
  unfold State.passStart
  split
  · exact h.markStart.takeUnderWay _
  · exact h.markStart
  · exact h.markStart

theorem State.Fitting.startPassed : s.startPassed.Fitting := by
  unfold State.startPassed
  split
  · exact h.passStart
  · exact h

theorem State.Fitting.startWith {offer : State → State} (kept : ∀ t : State, t.Fitting → (offer t).Fitting) :
    (s.startWith offer).Fitting := by
  unfold State.startWith
  split
  · exact kept _ h.markStart
  · split
    · exact h.markStart
    · exact kept _ h.markStart
  · exact (kept _ h.markStart).takeUnderWay _

theorem State.Fitting.receive (bytes : List Byte) (ragged : Bool) (span : FrameSpan) : (s.receive bytes ragged span).Fitting := by
  have ready : ∀ (t : State) (f : Frame), t.Fitting →
      (if t.waits span then { t with line.atStart := some (.underWay bytes) } else t.takeFrame f span).Fitting :=
    fun t f fits => by
      split
      · exact fits.congr rfl
      · exact fits.takeFrame f span
  unfold State.receive
  split
  · dsimp only
    split
    · exact ready s _ h
    · exact ready s.startPassed _ h.startPassed
  · exact h

theorem State.Fitting.slotEnd : s.slotEnd.Fitting := by
  unfold State.slotEnd
  split
  · have caught := h.startPassed.foldl_takeDue s.startPassed.timer.due
    exact h.startPassed.ifActive (State.Fitting.ifActive (s := s.startPassed.catchUp) caught caught.endSlot)
  · exact h

/-! ### Every command -/

theorem State.Fitting.after (c : Instr) : (s.after c).Fitting := by
  have unlessHeld : ∀ {f : State → State}, (f s).Fitting → (if s.held then s else f s).Fitting := fun kept => by
    split
    · exact h
    · exact kept
  have powerOn : ∀ power, (s.powerOnValues power).Fitting := fun power => by
    obtain ⟨-, ⟨-, -, -, -, -, sized, -⟩, -, home, queue, -⟩ := Proofs.resetMeetsInvariants
    exact State.Fitting.congr (s := State.reset) ⟨sized, home, queue⟩ rfl
  have ifDue : ∀ d, (s.ifActive (·.takeDue d)).Fitting := fun d => h.ifActive (h.takeDue d)
  cases c with
  | commandDiscard | resetAct => exact unlessHeld h.endTransaction
  | fetchRemoval => exact unlessHeld h.fetchRemoval
  | eventRemoval => exact unlessHeld h.eventRemoval
  | powerOn | rstnFall => exact powerOn _
  | rstnRise | supplySettled => exact h.congr rfl
  | receiveFrame bytes ragged span => exact h.receive bytes ragged span
  | scheduledSlotStart =>
    simp only [State.after, State.scheduledStart]
    split
    · exact h.startWith fun t fits => fits.offerData
    · exact h
  | openSlotStart =>
    simp only [State.after, State.openStart]
    split
    · exact h.startWith fun t fits => fits.offerControl
    · exact h
  | ownFrameEnd differed => exact h.frameEnd differed
  | cycleStart => exact h.cycleStart
  | slotEnd => exact h.slotEnd
  | peerAbsence =>
    refine h.ifActive (f := (·.absenceNext)) ?_
    simp only [State.absenceNext]
    split
    · exact h.takeDue _
    · exact h
  | deadlineReached l =>
    refine h.ifActive (f := (·.deadlineNext l)) ?_
    simp only [State.deadlineNext]
    split
    · split
      · exact h
      · exact h.takeDue _
    · exact h
  | lapse | yieldWindowExpire | pendingExpiry | barExpire | settleExpire | listenEnd | waitingHomePick | leaveTimeout
  | relearnHoldExpire | busyHoldExpire => exact ifDue _
  | _ => exact h.take _

end

theorem State.Coherent.fitting {s : State} (h : s.Coherent) : s.Fitting := by
  obtain ⟨-, ⟨-, -, -, -, -, sized, -⟩, -, home, queue, -⟩ := h
  exact ⟨sized, home, queue⟩

/-- Every step keeps own entries, claim in flight and control queue in step with the station state. -/
theorem step_fitting {s t : State} (h : s.Coherent) (taken : step s = .next t) : t.Fitting := by
  obtain rfl | ⟨c, rest, -, rfl⟩ := step_next taken
  · exact h.fitting
  · exact State.Fitting.after (s := { s with pending := rest }) (h.fitting.congr rfl) c

end Sys2Proof.Machine

namespace Sys2Proof.Proofs

open Sys2Proof.Machine

/-- Settles O7. -/
theorem homeStaysCoherent : Obligations.HomeStaysCoherent := fun _ _ h taken => (step_fitting h taken).home

/-- Settles O8. -/
theorem queueStaysCoherent : Obligations.QueueStaysCoherent := fun _ _ h taken => (step_fitting h taken).queue

end Sys2Proof.Proofs
